-- ==== Sys2Proof/Word.lean ====
section
/-! DEFINITION. The word types of the block: 32-bit register and command words, 16-bit cells, 8-bit pixels. -/

namespace Sys2Proof

/-- A register value, a command word, a port index or a time value (20_memory R50, 30_encoding R74). -/
abbrev Word := BitVec 32

/-- A register offset on the REG port: 12 bits, a byte offset (30_encoding R81). -/
abbrev Offset := BitVec 12

/-- A packed cell (30_encoding R70). -/
abbrev CellWord := BitVec 16

/-- A pixel (20_memory R55). -/
abbrev Pixel := BitVec 8

/-- TIME_W, the width in bits of NOW and DEADLINE (00_scope R8). -/
abbrev timeW : Nat := 32

end Sys2Proof
end

