-- ==== Sys2Proof/Config.lean ====
section
/-! DEFINITION. The instantiation parameters of the block (00_scope R8) as a record of plain data, and the
uninterpreted constants that stand for what the spec leaves open. The derived sizes, the legal ranges and the table
lookups are in Machine/Params.lean. -/

namespace Sys2Proof

/-- A palette entry: an RGB triple with 8 bits per channel (30_encoding R73). -/
structure Rgb where
  red : BitVec 8
  green : BitVec 8
  blue : BitVec 8
  deriving DecidableEq, Repr, Inhabited

/-- The contents of the glyph table (10_state R39). The spec leaves GLYPH_ROM open (D7). `openRom` is a table of which
nothing is known: its rows are `Config.openGlyphRow`. `rows l` is the table whose entry `code·H + y` is row `y` of
glyph `code` (30_encoding R72). -/
inductive GlyphRom where
  | openRom
  | rows (l : List Word)
  deriving DecidableEq, Repr

/-- The contents of the palette (10_state R38). The spec fixes entries 0 and 15 and leaves the others open (D8).
`openPalette` is a palette of which nothing else is known; `entries l` lists all sixteen. -/
inductive Palette where
  | openPalette
  | entries (l : List Rgb)
  deriving DecidableEq, Repr

/-- The parameters of one instance, fixed for its life (00_scope R8, 90_conflicts C6). -/
structure Config where
  /-- ROWS (R) -/
  rows : Nat
  /-- COLS (C) -/
  cols : Nat
  /-- CELL_W (W) -/
  cellW : Nat
  /-- CELL_H (H) -/
  cellH : Nat
  /-- GLYPH_ROM -/
  glyphRom : GlyphRom
  /-- PALETTE -/
  palette : Palette
  /-- BLINK_PERIOD (P), in milliseconds -/
  period : Nat
  deriving DecidableEq, Repr

/-- This hardware's parameters (00_scope R8): a 25×80 grid of 8×16 cells and the period 224 (90_conflicts C1), with the
open glyph table and the open palette. -/
def Config.thisHardware : Config where
  rows := 25
  cols := 80
  cellW := 8
  cellH := 16
  glyphRom := .openRom
  palette := .openPalette
  period := 224

/-- FREE: row `y` of glyph `code` of the open glyph table (D7, 91_not_in_source N2). Nothing is known of it. -/
opaque Config.openGlyphRow : BitVec 8 → Nat → Word

/-- FREE: entry `i` of the open palette, for `i` from 1 to 14 (D8, 91_not_in_source N1). Nothing is known of it. -/
opaque Config.openPaletteEntry : Nat → Rgb

/-- FREE: what grid word `i` holds from power-up until it is first written (10_state R40: "a hardware read returns an
unspecified value"). Nothing is known of it. It is one value per word, because reads are idempotent (20_memory R59;
log 9). -/
opaque Config.freeGridWord : Nat → CellWord

/-- FREE: what pixel `a` holds after the `n`-th reset until it is first written (10_state R41: "every pixel is
unspecified"). Nothing is known of it. It is one value per pixel and reset, because reads are idempotent (20_memory R59;
log 9). DESIGN CHOICE (log 23), safe: all eight bits are free, although 20_memory R55 says that bits 7:4 of a pixel are
always 0. -/
opaque Config.freePixel : Nat → Nat → Pixel

end Sys2Proof
end

