-- ==== Sys2Proof/Syntax.lean ====
section
/-! DEFINITION. The syntax of what the host can do: the transaction forms of the ports (30_encoding R81), the commands a
CMD word can carry (R76), the instructions (one constructor per row of the opcode table) and the registers of the
register map (R82). -/

namespace Sys2Proof

/-- The commands of 30_encoding R76. `rasterCell sup` is RASTER_CELL with the SUP bit `sup`. -/
inductive Command where
  | nop
  | rasterCell (sup : Bool)
  | buildFrames
  | blinkStart
  | blinkCheck
  | ackPresent
  deriving DecidableEq, Repr

/-- A transaction as the ports carry it: the six forms of 30_encoding R81, with the widths given there. -/
inductive Transaction where
  | regWr (off : Offset) (data : Word)
  | regRd (off : Offset)
  | gridWr (i : Word) (data : CellWord)
  | gridRd (i : Word)
  | pixRd (a : Word)
  | presRd (p : Word)
  deriving DecidableEq, Repr

/-- What the host can do to the block between two steps: issue a transaction, or assert the reset input `rst`
(70_reset_and_hazards R240). -/
inductive HostInput where
  | txn (t : Transaction)
  | rst
  deriving DecidableEq, Repr

/-- The instructions, one constructor per row of spec/opcode_table.json. A write to CMD that carries a legal command word
is that command's constructor; every other transaction is its port form. -/
inductive Instr where
  | nop
  | rasterCell
  | rasterCellS
  | buildFrames
  | blinkStart
  | blinkCheck
  | ackPresent
  | regWr (off : Offset) (data : Word)
  | regRd (off : Offset)
  | gridWr (i : Word) (data : CellWord)
  | gridRd (i : Word)
  | pixRd (a : Word)
  | presRd (p : Word)
  deriving DecidableEq, Repr

/-- The named registers of the register map (30_encoding R82). -/
inductive Reg where
  | cmd
  | status
  | cell
  | dstBase
  | dstStride
  | now
  | deadline
  | period
  | geom
  | errCmd
  | palette (i : Fin 16)
  deriving DecidableEq, Repr

/-- The pseudo-instructions of 30_encoding R87, but for the plain `cmd` spellings, which are commands. -/
inductive Pseudo where
  | raster (base stride : Word) (cell : CellWord)
  | rasterS (base stride : Word) (cell : CellWord)
  | start (t : Word)
  | check (t : Word)
  | ack
  | nop
  deriving DecidableEq, Repr

end Sys2Proof
end

