-- ==== Sys2Proof/WellFormed.lean ====
section
/-! DEFINITION. Which instructions are well formed: a register offset is one the REG port carries (30_encoding R81), and a
write to CMD that carries one of the seven legal command words is written as that command, not as a register write. -/

namespace Sys2Proof

/-- The offset of CMD (30_encoding R82). -/
abbrev cmdOffset : Offset := 0x000#12

/-- Bits 1:0 of a register offset are 0 (30_encoding R81, 20_memory R51). -/
def Offset.aligned (off : Offset) : Bool := off.extractLsb' 0 2 == 0#2

/-- The seven legal command words (30_encoding R78). -/
def legalCommandWords : List Word :=
  [0x00000000#32, 0x00000001#32, 0x00000011#32, 0x00000002#32, 0x00000003#32, 0x00000004#32, 0x00000005#32]

/-- An instruction that is some transaction's decoding. -/
def Instr.wellFormed : Instr → Bool
  | .nop => true
  | .rasterCell => true
  | .rasterCellS => true
  | .buildFrames => true
  | .blinkStart => true
  | .blinkCheck => true
  | .ackPresent => true
  | .regWr off data => Offset.aligned off && !(off == cmdOffset && legalCommandWords.contains data)
  | .regRd off => Offset.aligned off
  | .gridWr _ _ => true
  | .gridRd _ => true
  | .pixRd _ => true
  | .presRd _ => true

end Sys2Proof
end

