-- ==== Sys2Proof/Decode.lean ====
section
/-! DEFINITION. The decoder, written from 30_encoding R75 to R85: the command decode of R78 over every 32-bit word, the
decode of a port transaction, which rejects by name the one thing the REG port cannot carry, and the register map. After
it the encoder, written from the same rules, and the expansions of the pseudo-instructions (R87). -/

namespace Sys2Proof

/-- Why the decoder rejects a transaction. -/
inductive DecodeError where
  /-- A register offset whose bits 1:0 are not 0: the REG port does not carry those bits (20_memory R51), so no such
  transaction exists. -/
  | misalignedOffset (off : Offset)
  deriving DecidableEq, Repr

/-! ### Command words -/

/-- Field OP of a command word (30_encoding R75). -/
def opField (w : Word) : BitVec 4 := w.extractLsb' 0 4

/-- Field SUP of a command word (30_encoding R75). -/
def supField (w : Word) : Bool := w.getLsbD 4

/-- Field RES of a command word (30_encoding R75). -/
def resField (w : Word) : BitVec 27 := w.extractLsb' 5 27

/-- The operation that OP selects (30_encoding R76), given SUP; none for the reserved OPs 0x6 to 0xF. -/
def commandOfOp (op : BitVec 4) (sup : Bool) : Option Command :=
  if op = 0x0#4 then some .nop
  else if op = 0x1#4 then some (.rasterCell sup)
  else if op = 0x2#4 then some .buildFrames
  else if op = 0x3#4 then some .blinkStart
  else if op = 0x4#4 then some .blinkCheck
  else if op = 0x5#4 then some .ackPresent
  else none

/-- Command decode (30_encoding R78), total over every word: `none` is ILLEGAL_CMD. -/
def decodeCommand (w : Word) : Option Command :=
  if resField w ≠ 0#27 ∨ (supField w = true ∧ opField w ≠ 0x1#4) then none
  else commandOfOp (opField w) (supField w)

/-- The command a word carries, as an instruction. -/
def Command.toInstr : Command → Instr
  | .nop => .nop
  | .rasterCell false => .rasterCell
  | .rasterCell true => .rasterCellS
  | .buildFrames => .buildFrames
  | .blinkStart => .blinkStart
  | .blinkCheck => .blinkCheck
  | .ackPresent => .ackPresent

/-! ### Transactions -/

/-- Decode of a transaction, total: a write to CMD with a legal word is that command (30_encoding R81), a register offset
that the port cannot carry is rejected by name, and everything else is its port form. -/
def decode : Transaction → Except DecodeError Instr
  | .regWr off data =>
    if Offset.aligned off then
      if off = cmdOffset then
        match decodeCommand data with
        | some c => .ok c.toInstr
        | none => .ok (.regWr off data)
      else .ok (.regWr off data)
    else .error (.misalignedOffset off)
  | .regRd off => if Offset.aligned off then .ok (.regRd off) else .error (.misalignedOffset off)
  | .gridWr i data => .ok (.gridWr i data)
  | .gridRd i => .ok (.gridRd i)
  | .pixRd a => .ok (.pixRd a)
  | .presRd p => .ok (.presRd p)

/-! ### The register map -/

/-- The register at an offset (30_encoding R82); `none` for the unmapped offsets. -/
def regOfOffset (off : Offset) : Option Reg :=
  if off = 0x000#12 then some .cmd
  else if off = 0x004#12 then some .status
  else if off = 0x008#12 then some .cell
  else if off = 0x00C#12 then some .dstBase
  else if off = 0x010#12 then some .dstStride
  else if off = 0x014#12 then some .now
  else if off = 0x018#12 then some .deadline
  else if off = 0x01C#12 then some .period
  else if off = 0x020#12 then some .geom
  else if off = 0x024#12 then some .errCmd
  else if 0x040#12 ≤ off ∧ off < 0x080#12 then some (.palette (Fin.ofNat 16 ((off.toNat - 0x040) / 4)))
  else none

/-- The offset of a register (30_encoding R82). -/
def Reg.offset : Reg → Offset
  | .cmd => 0x000#12
  | .status => 0x004#12
  | .cell => 0x008#12
  | .dstBase => 0x00C#12
  | .dstStride => 0x010#12
  | .now => 0x014#12
  | .deadline => 0x018#12
  | .period => 0x01C#12
  | .geom => 0x020#12
  | .errCmd => 0x024#12
  | .palette i => BitVec.ofNat 12 (0x040 + 4 * i.val)

/-! ### The encoder -/

/-- The command word of a command (30_encoding R76). -/
def Command.word : Command → Word
  | .nop => 0x00000000#32
  | .rasterCell false => 0x00000001#32
  | .rasterCell true => 0x00000011#32
  | .buildFrames => 0x00000002#32
  | .blinkStart => 0x00000003#32
  | .blinkCheck => 0x00000004#32
  | .ackPresent => 0x00000005#32

/-- The transaction that is an instruction: a command is a write of its word to CMD (30_encoding R81). -/
def encode : Instr → Transaction
  | .nop => .regWr cmdOffset (Command.word .nop)
  | .rasterCell => .regWr cmdOffset (Command.word (.rasterCell false))
  | .rasterCellS => .regWr cmdOffset (Command.word (.rasterCell true))
  | .buildFrames => .regWr cmdOffset (Command.word .buildFrames)
  | .blinkStart => .regWr cmdOffset (Command.word .blinkStart)
  | .blinkCheck => .regWr cmdOffset (Command.word .blinkCheck)
  | .ackPresent => .regWr cmdOffset (Command.word .ackPresent)
  | .regWr off data => .regWr off data
  | .regRd off => .regRd off
  | .gridWr i data => .gridWr i data
  | .gridRd i => .gridRd i
  | .pixRd a => .pixRd a
  | .presRd p => .presRd p

/-! ### Pseudo-instructions -/

/-- The expansion of a pseudo-instruction into transactions (30_encoding R87). -/
def Pseudo.expand : Pseudo → List Transaction
  | .raster base stride cell =>
    [.regWr Reg.dstBase.offset base, .regWr Reg.dstStride.offset stride,
      .regWr Reg.cell.offset (cell.setWidth 32), encode .rasterCell]
  | .rasterS base stride cell =>
    [.regWr Reg.dstBase.offset base, .regWr Reg.dstStride.offset stride,
      .regWr Reg.cell.offset (cell.setWidth 32), encode .rasterCellS]
  | .start t => [.regWr Reg.now.offset t, encode .blinkStart]
  | .check t => [.regWr Reg.now.offset t, encode .blinkCheck]
  | .ack => [encode .ackPresent]
  | .nop => [encode .nop]

/-! ### The opcode table's words -/

/-- The instruction the command decoder reads from the bits `w` of an opcode-table row of `nbits` bits: the table's only
words are CMD words, one 32-bit word each (30_encoding R74). -/
def decodeTableWord (nbits w : Nat) : Option Instr :=
  if w % 2 ^ nbits < 2 ^ 32 then (decodeCommand (BitVec.ofNat 32 (w % 2 ^ nbits))).map Command.toInstr else none

end Sys2Proof
end

