-- ==== Sys2Proof/Machine/Params.lean ====
section
/-! DEFINITION. What follows from the instance's parameters: the derived sizes (00_scope R8), the legal ranges (R9), and
the lookups in the two constant tables (20_memory R53, 10_state R38). -/

namespace Sys2Proof

/-- The number of cells of the grid space, R·C (20_memory R52). -/
def Config.cells (c : Config) : Nat := c.rows * c.cols

/-- IMG, the pixels of one image (00_scope R8). -/
def Config.img (c : Config) : Nat := c.rows * c.cellH * c.cols * c.cellW

/-- IMG_STRIDE, the pixels of one image row (00_scope R8). -/
def Config.imgStride (c : Config) : Nat := c.cols * c.cellW

/-- PIX_SIZE, the pixels of the pixel space (00_scope R8). -/
def Config.pixSize (c : Config) : Nat := 2 * c.img

/-- A glyph table of the shape 30_encoding R72 gives: 256·H rows. -/
def GlyphRom.fits (h : Nat) : GlyphRom → Bool
  | .openRom => true
  | .rows l => l.length == 256 * h

/-- Black, as 8-bit channels (92_eei_decisions D8). -/
def Rgb.black : Rgb := ⟨0x00#8, 0x00#8, 0x00#8⟩

/-- White, read as every 8-bit channel at its maximum (92_eei_decisions D8, 93 G2). PRESUMED (log 7); unsafe. -/
def Rgb.white : Rgb := ⟨0xFF#8, 0xFF#8, 0xFF#8⟩

/-- A palette of sixteen entries that meets the constraint of 92_eei_decisions D8. -/
def Palette.fits : Palette → Bool
  | .openPalette => true
  | .entries l => l.length == 16 && l[0]? == some Rgb.black && l[15]? == some Rgb.white

/-- The legal parameter ranges (00_scope R9), and tables of the shape R8 gives them (log 8). -/
def Config.legal (c : Config) : Bool :=
  decide ((1 ≤ c.rows ∧ c.rows ≤ 255) ∧ (1 ≤ c.cols ∧ c.cols ≤ 255) ∧ (1 ≤ c.cellW ∧ c.cellW ≤ 32) ∧
    (1 ≤ c.cellH ∧ c.cellH ≤ 255) ∧ c.pixSize ≤ 2 ^ 32 ∧ (1 ≤ c.period ∧ c.period < 2 ^ timeW) ∧
    c.glyphRom.fits c.cellH = true ∧ c.palette.fits = true)

/-- `GlyphRow(code, y)`: row `y` of glyph `code` (20_memory R53). Bits W-1 down to 0 are the row. The code is used
unchanged, with no clamp (40_glyph_rasterizer R104). -/
def Config.glyphRow (c : Config) (code : BitVec 8) (y : Nat) : Word :=
  match c.glyphRom with
  | .openRom => Config.openGlyphRow code y
  | .rows l => l.getD (code.toNat * c.cellH + y) 0#32

/-- `PALETTE[i]` (10_state R38): entry 0 is black and entry 15 is white. -/
def Config.paletteEntry (c : Config) (i : Fin 16) : Rgb :=
  match c.palette with
  | .openPalette => if i = 0 then Rgb.black else if i = 15 then Rgb.white else Config.openPaletteEntry i.val
  | .entries l => l.getD i.val Rgb.black

/-- The register value of a palette entry, `{8'h00, R, G, B}` (30_encoding R73). -/
def Rgb.word (e : Rgb) : Word := 0#8 ++ e.red ++ e.green ++ e.blue

/-- GEOM, `{H, W, C, R}`: bits 7:0 ROWS, 15:8 COLS, 23:16 CELL_W, 31:24 CELL_H (10_state R37, 30_encoding R83). DEDUCED
(log 18), unsafe: this hardware's value by this layout is 0x10085019, and the number that the two rules print and R83 tags as
derived from the layout, 0x10081950, has the bytes of C and R the other way round. The layout is followed. -/
def Config.geom (c : Config) : Word :=
  BitVec.ofNat 8 c.cellH ++ BitVec.ofNat 8 c.cellW ++ BitVec.ofNat 8 c.cols ++ BitVec.ofNat 8 c.rows

/-- PERIOD (10_state R36). -/
def Config.periodWord (c : Config) : Word := BitVec.ofNat 32 c.period

end Sys2Proof
end

