-- ==== Sys2Proof/Machine/State.lean ====
section
/-! DEFINITION. The state of the block as plain data (10_state R20 to R46), its value at power-up, and the reasons a step
can stop. -/

namespace Sys2Proof.Machine

/-- A memory of `w`-bit elements: (address, element) pairs, addresses strictly rising, and exactly the written elements
listed. An unlisted address has no value (10_state R40, R41), so the list is also the written mask of R44.
`Memory 8` is a list of `Host.Cell`. -/
abbrev Memory (w : Nat) := List (Nat × BitVec w)

/-- The Blink Phase (10_state R30), which is also the frame select (42_blink_scheduler R158): `visible` is 0 and selects
image V, `suppressed` is 1 and selects image S. -/
inductive Phase where
  | visible
  | suppressed
  deriving DecidableEq, Repr

/-- The error codes that can occur (60_exceptions R210). Codes 0x7 to 0xF are never produced. -/
inductive ErrCode where
  /-- 0x0: no error since reset -/
  | none
  /-- 0x1 ILLEGAL_CMD -/
  | illegalCmd
  /-- 0x2 FRAMES_LOCKED -/
  | framesLocked
  /-- 0x3 DST_RANGE -/
  | dstRange
  /-- 0x4 NOT_ARMED -/
  | notArmed
  /-- 0x5 ALREADY_ARMED -/
  | alreadyArmed
  /-- 0x6 TIME_OVERFLOW -/
  | timeOverflow
  deriving DecidableEq, Repr

/-- The value a read transaction returned to the host, by port (43_host_interface R183, R186 to R188). -/
inductive Response where
  | reg (v : Word)
  | grid (v : CellWord)
  | pix (v : Pixel)
  | pres (v : Pixel)
  deriving DecidableEq, Repr

/-- The faults that stop a step. There are none: an error of 60_exceptions R210 is recorded in STATUS and the block goes
on (R213, 43_host_interface R184), and a read of unwritten data sets the fault mark of 10_state R44, which is a field of
State (log 12; safe). -/
inductive Fault where
  deriving DecidableEq, Repr

/-- The refusals. -/
inductive Refusal where
  /-- An instruction with no meaning yet: raised by `exec` alone. No arm raises it. Safe. -/
  | notModelled (mnemonic : String)
  /-- A register access at an offset whose bits 1:0 are not 0: raised by REG_WR, REG_RD and the step. The port does not
  carry those bits, so no such transaction exists (20_memory R51, R58; log 4). Safe. -/
  | misalignedOffset (off : Offset)
  /-- The instance's parameters are outside the legal ranges: raised by the step alone. "A model given parameters outside
  these ranges refuses the configuration" (00_scope R9; log 8). Safe. -/
  | configOutOfRange
  deriving DecidableEq, Repr

/-- The state of the block between two transactions. -/
structure State where
  /-- The instance's parameters: PERIOD, GEOM, PALETTE and the glyph table (10_state R36 to R39). No step writes it. -/
  cfg : Config
  /-- CELL (10_state R22) -/
  cell : CellWord
  /-- DST_BASE (10_state R23) -/
  dstBase : Word
  /-- DST_STRIDE (10_state R24) -/
  dstStride : Word
  /-- NOW (10_state R25) -/
  now : Word
  /-- STATUS.FRAMES_VALID (10_state R28) -/
  framesValid : Bool
  /-- STATUS.ARMED (10_state R29) -/
  armed : Bool
  /-- STATUS.PHASE (10_state R30) -/
  phase : Phase
  /-- STATUS.PEND (10_state R31) -/
  pend : Bool
  /-- STATUS.BUSY (10_state R32): the atomic model never sets it (log 13). -/
  busy : Bool
  /-- STATUS.ERR (10_state R33) -/
  err : Bool
  /-- STATUS.ERR_CODE (10_state R33) -/
  errCode : ErrCode
  /-- DEADLINE (10_state R34) -/
  deadline : Word
  /-- ERR_CMD (10_state R35) -/
  errCmd : Word
  /-- The grid space (10_state R40) -/
  grid : Memory 16
  /-- The pixel space: image V, then image S (10_state R41) -/
  pix : Memory 8
  /-- The event trace of `Present(sel)` events, oldest first (10_state R44, 42_blink_scheduler R161) -/
  presents : List Phase
  /-- The fault mark (10_state R44) -/
  faultMark : Bool
  /-- The refusal mark (10_state R44) -/
  refusalMark : Bool
  /-- The model's own: the values the read transactions returned, oldest first (43_host_interface R191; log 14) -/
  responses : List Response
  /-- The model's own: how many resets have made the pixels unspecified since power-up, which says which free values the
  unwritten pixels hold (log 9) -/
  resets : Nat
  /-- The model's own: the host's inputs not yet consumed, next first (log 1) -/
  pending : List HostInput
  deriving DecidableEq, Repr

/-- Power-up: reset together with an all-unwritten grid space and an empty event trace (70_reset_and_hazards R240,
10_state R45), of this hardware's instance. DESIGN CHOICE (log 24), safe: the two marks of R44 are clear, for which the spec
gives no power-up value. The model's own fields start empty and at 0 (log 1, log 9, log 14). -/
def State.reset : State where
  cfg := Config.thisHardware
  cell := 0x0000#16
  dstBase := 0x00000000#32
  dstStride := 0x00000000#32
  now := 0x00000000#32
  framesValid := false
  armed := false
  phase := .visible
  pend := false
  busy := false
  err := false
  errCode := .none
  deadline := 0x00000000#32
  errCmd := 0x00000000#32
  grid := []
  pix := []
  presents := []
  faultMark := false
  refusalMark := false
  responses := []
  resets := 0
  pending := []

end Sys2Proof.Machine
end

