-- ==== Sys2Proof/Machine/Ops.lean ====
section
/-! DEFINITION. The shared operations: reads and writes of a memory, the bookkeeping of the event trace and of the values
read, entering an error (60_exceptions R213) and the way out of it, the reset (70_reset_and_hazards R240). -/

namespace Sys2Proof.Machine

/-! ### Memories -/

/-- The element at an address; `none` where it was never written. -/
def Memory.read {w : Nat} : Memory w → Nat → Option (BitVec w)
  | [], _ => none
  | (b, u) :: m, a => if a = b then some u else Memory.read m a

/-- Write an element, keeping the addresses strictly rising. -/
def Memory.write {w : Nat} : Memory w → Nat → BitVec w → Memory w
  | [], a, v => [(a, v)]
  | (b, u) :: m, a, v =>
    if a < b then (a, v) :: (b, u) :: m
    else if a = b then (a, v) :: m
    else (b, u) :: Memory.write m a v

/-- The canonical form: addresses strictly rising. No listed element equals what an unlisted address reads as, because an
unlisted address has no value. -/
abbrev Memory.wf {w : Nat} (m : Memory w) : Prop := m.Pairwise (fun p q => p.1 < q.1)

/-- The element was written (the written mask of 10_state R44). -/
def Memory.written {w : Nat} (m : Memory w) (a : Nat) : Bool := (m.read a).isSome

/-! ### Phase, frame select and presentation request -/

/-- The other phase (42_blink_scheduler R155: `1 - PHASE`). -/
def Phase.flip : Phase → Phase
  | .visible => .suppressed
  | .suppressed => .visible

/-- The encoding of a phase, which is also the frame select (10_state R30). -/
def Phase.bit : Phase → Bool
  | .visible => false
  | .suppressed => true

/-- The output FRAME_SEL (42_blink_scheduler R158). -/
def State.frameSel (s : State) : Phase := s.phase

/-- The output `present_req`, a level (10_state R31, 60_exceptions R217). -/
def State.presentReq (s : State) : Bool := s.pend

/-- The base address of the image a phase selects, `FRAME_SEL·IMG` (42_blink_scheduler R158). -/
def imageBase (c : Config) : Phase → Nat
  | .visible => 0
  | .suppressed => c.img

/-- `emit Present(sel)`, which also sets PEND (42_blink_scheduler R161). -/
def State.emitPresent (sel : Phase) (s : State) : State :=
  { s with pend := true, presents := s.presents ++ [sel] }

/-! ### Values read -/

/-- A read transaction returns `r` to the host; nothing else changes (20_memory R59). -/
def State.respond (r : Response) (s : State) : State :=
  { s with responses := s.responses ++ [r] }

/-- A read of unwritten data: it returns the free value `r` and sets the fault mark (10_state R44; log 9). No other read
is affected (20_memory R59). -/
def State.respondUnwritten (r : Response) (s : State) : State :=
  { s with responses := s.responses ++ [r], faultMark := true }

/-- A read transaction of an element that may never have been written: the element, or the free value `free` with the
fault mark set (43_host_interface R186 to R188; log 9). -/
def State.respondRead {w : Nat} (f : BitVec w → Response) (v : Option (BitVec w)) (free : BitVec w) (s : State) : State :=
  match v with
  | some v => s.respond (f v)
  | none => s.respondUnwritten (f free)

/-- Set the fault mark (10_state R44). -/
def State.markFault (s : State) : State := { s with faultMark := true }

/-- Set the refusal mark (10_state R44). -/
def State.markRefusal (s : State) : State := { s with refusalMark := true }

/-! ### Errors and reset -/

/-- Error entry (60_exceptions R213, R214): `raise Error(code)` during the command carried by the CMD word `w`. The first
error since reset is kept; a later one changes neither ERR_CODE nor ERR_CMD (R215). -/
def State.raiseError (code : ErrCode) (w : Word) (s : State) : State :=
  { s with
    errCode := if s.err then s.errCode else code
    errCmd := if s.err then s.errCmd else w
    err := true
    faultMark := true }

/-- The reset input `rst` (70_reset_and_hazards R240, 10_state R45): every register and STATUS field takes its reset
value, every pixel becomes unwritten and holds a new unspecified value (`resets`, log 9); the grid space, the constants, the
event trace and the marks stay. This is also the only way out of an error (60_exceptions R215). -/
def State.applyReset (s : State) : State :=
  { s with
    cell := 0x0000#16
    dstBase := 0x00000000#32
    dstStride := 0x00000000#32
    now := 0x00000000#32
    framesValid := false
    armed := false
    phase := .visible
    pend := false
    busy := false
    err := false
    errCode := .none
    deadline := 0x00000000#32
    errCmd := 0x00000000#32
    pix := []
    resets := s.resets + 1 }

/-- Consume the next host input. -/
def State.dequeue (s : State) : State := { s with pending := s.pending.tail }

end Sys2Proof.Machine
end

