-- ==== Sys2Proof/Machine/Operands.lean ====
section
/-! DEFINITION. The operands: the fields of a cell (40_glyph_rasterizer R101), the pixel function (R102 to R105), the
operands the commands take from the registers (30_encoding R77), and the host's byte view of a cell (20_memory R57). -/

namespace Sys2Proof.Machine

/-- A decoded cell (40_glyph_rasterizer R101). -/
structure CellFields where
  code : BitVec 8
  blink : Bool
  bg : BitVec 3
  fg : BitVec 4
  deriving DecidableEq, Repr

/-- The attribute byte of a cell, `cell[15:8]` (30_encoding R70). -/
def attrByte (cell : CellWord) : BitVec 8 := cell.extractLsb' 8 8

/-- The attribute decoder (40_glyph_rasterizer R101), total over every cell. -/
def decodeCell (cell : CellWord) : CellFields where
  code := cell.extractLsb' 0 8
  blink := (attrByte cell).getLsbD 7
  bg := (attrByte cell).extractLsb' 4 3
  fg := (attrByte cell).extractLsb' 0 4

/-- Bitmap lookup (40_glyph_rasterizer R102): column 0 is bit W-1 of the row (30_encoding R71). -/
def glyphBit (c : Config) (code : BitVec 8) (x y : Nat) : Bool := (c.glyphRow code y).getLsbD (c.cellW - 1 - x)

/-- Compositing (40_glyph_rasterizer R103): the pixel of a cell at column `x` and row `y`, when `suppressBlink` is `sup`. -/
def pixelOf (c : Config) (cell : CellWord) (sup : Bool) (x y : Nat) : Pixel :=
  let d := decodeCell cell
  if glyphBit c d.code x y = true ∧ ¬(d.blink = true ∧ sup = true) then d.fg.setWidth 8 else d.bg.setWidth 8

/-- The lane view of one glyph row (40_glyph_rasterizer R105): the W pixels of row `y`, leftmost first. -/
def rowPixels (c : Config) (cell : CellWord) (sup : Bool) (y : Nat) : List Pixel :=
  (List.range c.cellW).map (fun x => pixelOf c cell sup x y)

/-- RASTER_CELL's destination address, DST_BASE as an unsigned number (30_encoding R77). -/
def State.rasterBase (s : State) : Nat := s.dstBase.toNat

/-- RASTER_CELL's row stride, DST_STRIDE as an unsigned number (30_encoding R77). -/
def State.rasterStride (s : State) : Nat := s.dstStride.toNat

/-- The current time of a scheduling check, NOW as an unsigned number (30_encoding R77, 42_blink_scheduler R154). -/
def State.time (s : State) : Nat := s.now.toNat

/-- The index of the cell at a grid row and column (20_memory R52). -/
def cellIndex (c : Config) (row col : Nat) : Nat := row * c.cols + col

/-- The top-left pixel address in image V of the cell at a grid row and column (41_frame_builder R132). -/
def cellOrigin (c : Config) (row col : Nat) : Nat := (row * c.cellH) * c.imgStride + col * c.cellW

/-- How a host with a byte-addressed memory holds a cell: the glyph code first, then the attribute byte (20_memory R57). -/
def hostBytes (cell : CellWord) : List (BitVec 8) := [cell.extractLsb' 0 8, attrByte cell]

/-- The cell two bytes of such a host stand for (20_memory R57). -/
def cellOfHostBytes (lo hi : BitVec 8) : CellWord := hi ++ lo

end Sys2Proof.Machine
end

