-- ==== Sys2Proof/Machine/Blink.lean ====
section
/-! DEFINITION. The blink scheduler: BLINK_START and BLINK_CHECK (42_blink_scheduler R150 to R163). -/

namespace Sys2Proof.Machine

/-- The largest time value, 2^TIME_W - 1 (42_blink_scheduler R163). -/
def timeMax : Nat := 2 ^ timeW - 1

/-- BLINK_START, command word 0x00000003 (42_blink_scheduler R151). -/
def execBlinkStart (s : State) : Host.Outcome State Fault Refusal :=
  if s.armed = true then .next (s.raiseError .alreadyArmed (Command.word .blinkStart))
  else if timeMax < s.time + s.cfg.period then .next (s.raiseError .timeOverflow (Command.word .blinkStart))
  else .next { s with phase := .visible, deadline := BitVec.ofNat 32 (s.time + s.cfg.period), armed := true }

/-- One flip (42_blink_scheduler R155): the phase toggles and the deadline advances by one period from the prior
deadline (R157). -/
def State.flip (s : State) : State :=
  { s with phase := s.phase.flip, deadline := BitVec.ofNat 32 (s.deadline.toNat + s.cfg.period) }

/-- The presentation request of a flip: only while the frames are valid (42_blink_scheduler R155, R161, R162). -/
def State.requestIfValid (s : State) : State := if s.framesValid = true then State.emitPresent s.phase s else s

/-- BLINK_CHECK, command word 0x00000004 (42_blink_scheduler R155): at most one flip (R156). -/
def execBlinkCheck (s : State) : Host.Outcome State Fault Refusal :=
  if s.armed = false then .next (s.raiseError .notArmed (Command.word .blinkCheck))
  else if s.time < s.deadline.toNat then .next s
  else if timeMax < s.deadline.toNat + s.cfg.period then
    .next (s.raiseError .timeOverflow (Command.word .blinkCheck))
  else .next s.flip.requestIfValid

end Sys2Proof.Machine
end

