-- ==== Sys2Proof/Machine/Flags.lean ====
section
/-! DEFINITION. The status word: the numbers of the error codes (60_exceptions R210) and the layout of STATUS
(30_encoding R84). -/

namespace Sys2Proof.Machine

/-- The number of an error code (60_exceptions R210). -/
def ErrCode.number : ErrCode → BitVec 4
  | .none => 0x0#4
  | .illegalCmd => 0x1#4
  | .framesLocked => 0x2#4
  | .dstRange => 0x3#4
  | .notArmed => 0x4#4
  | .alreadyArmed => 0x5#4
  | .timeOverflow => 0x6#4

/-- STATUS as a read returns it (30_encoding R84). -/
def State.statusWord (s : State) : Word :=
  0#20 ++ s.errCode.number ++ 0#2 ++ BitVec.ofBool s.err ++ BitVec.ofBool s.busy ++ BitVec.ofBool s.pend
    ++ BitVec.ofBool s.phase.bit ++ BitVec.ofBool s.armed ++ BitVec.ofBool s.framesValid

/-- The value a read of a register returns (30_encoding R82 to R85). -/
def State.regValue (s : State) : Reg → Word
  | .cmd => 0#32
  | .status => s.statusWord
  | .cell => s.cell.setWidth 32
  | .dstBase => s.dstBase
  | .dstStride => s.dstStride
  | .now => s.now
  | .deadline => s.deadline
  | .period => s.cfg.periodWord
  | .geom => s.cfg.geom
  | .errCmd => s.errCmd
  | .palette i => (s.cfg.paletteEntry i).word

end Sys2Proof.Machine
end

