-- ==== Sys2Proof/Machine/Rasterizer.lean ====
section
/-! DEFINITION. The cell rasterizer: the pixel loop of 40_glyph_rasterizer R110, shared with the frame builder, and the
commands RASTER_CELL and RASTER_CELL.S. -/

namespace Sys2Proof.Machine

/-- The body of the pixel loop (40_glyph_rasterizer R110) at column `x`, row `y` and pixel address `a`: the background
always, then the foreground where the glyph bit is 1 and the cell is not blink-suppressed. -/
def rasterPixel (c : Config) (cell : CellWord) (sup : Bool) (x y a : Nat) (m : Memory 8) : Memory 8 :=
  let d := decodeCell cell
  let m := m.write a (d.bg.setWidth 8)
  if d.blink = true ∧ sup = true then m
  else if glyphBit c d.code x y = true then m.write a (d.fg.setWidth 8)
  else m

/-- One glyph row of the loop: columns 0 to W-1. -/
def rasterRow (c : Config) (base stride : Nat) (cell : CellWord) (sup : Bool) (y : Nat) (m : Memory 8) : Memory 8 :=
  (List.range c.cellW).foldl (fun m x => rasterPixel c cell sup x y (base + y * stride + x) m) m

/-- The pixel loop (40_glyph_rasterizer R110, 41_frame_builder R130 `RasterInto`): rows outer, columns inner. -/
def rasterInto (c : Config) (base stride : Nat) (cell : CellWord) (sup : Bool) (m : Memory 8) : Memory 8 :=
  (List.range c.cellH).foldl (fun m y => rasterRow c base stride cell sup y m) m

/-- The highest address RASTER_CELL would write, computed without wrap-around (40_glyph_rasterizer R111). -/
def rasterLast (s : State) : Nat := s.rasterBase + (s.cfg.cellH - 1) * s.rasterStride + (s.cfg.cellW - 1)

/-- RASTER_CELL (40_glyph_rasterizer R110 to R113) with `suppressBlink` = `sup`, carried by the CMD word `w`: the checks
of R111 in order, then the pixel loop. -/
def rasterCommand (sup : Bool) (w : Word) (s : State) : Host.Outcome State Fault Refusal :=
  if s.framesValid = true then .next (s.raiseError .framesLocked w)
  else if s.cfg.pixSize ≤ rasterLast s then .next (s.raiseError .dstRange w)
  else .next { s with pix := rasterInto s.cfg s.rasterBase s.rasterStride s.cell sup s.pix }

/-- RASTER_CELL, command word 0x00000001 (40_glyph_rasterizer R110). -/
def execRasterCell (s : State) : Host.Outcome State Fault Refusal :=
  rasterCommand false (Command.word (.rasterCell false)) s

/-- RASTER_CELL with SUP = 1, command word 0x00000011 (40_glyph_rasterizer R110). -/
def execRasterCellS (s : State) : Host.Outcome State Fault Refusal :=
  rasterCommand true (Command.word (.rasterCell true)) s

end Sys2Proof.Machine
end

