-- ==== Sys2Proof/Machine/FrameBuilder.lean ====
section
/-! DEFINITION. The frame builder: the grid iterator, the publish step and the command BUILD_FRAMES (41_frame_builder
R130 to R137). -/

namespace Sys2Proof.Machine

/-- The elements 0 to n-1 of a memory were all written. -/
def Memory.filled {w : Nat} (m : Memory w) : Nat → Bool
  | 0 => true
  | n + 1 => m.written n && Memory.filled m n

/-- Every grid word was written since power-up (41_frame_builder R131). -/
def gridComplete (s : State) : Bool := s.grid.filled s.cfg.cells

/-- The snapshot of the grid (41_frame_builder R131): the words as they stand when the command starts. It is taken only
when every word was written. -/
def gridWord (s : State) (i : Nat) : CellWord := (s.grid.read i).getD 0#16

/-- One cell of the grid iterator (41_frame_builder R130): image V, then image S. -/
def buildCell (c : Config) (g : Nat → CellWord) (row col : Nat) (m : Memory 8) : Memory 8 :=
  let cell := g (cellIndex c row col)
  let off := cellOrigin c row col
  rasterInto c (c.img + off) c.imgStride cell true (rasterInto c off c.imgStride cell false m)

/-- The grid iterator (41_frame_builder R130, R135): rows outer, columns inner. -/
def buildImages (c : Config) (g : Nat → CellWord) (m : Memory 8) : Memory 8 :=
  (List.range c.rows).foldl (fun m row => (List.range c.cols).foldl (fun m col => buildCell c g row col m) m) m

/-- Publish (41_frame_builder R134): both images become valid and the first presentation is requested. -/
def State.publish (s : State) : State := State.emitPresent s.phase { s with framesValid := true }

/-- BUILD_FRAMES, command word 0x00000002 (41_frame_builder R130). Where some grid word was never written the command
sets the fault mark and has no effect (R131; log 10). -/
def execBuildFrames (s : State) : Host.Outcome State Fault Refusal :=
  if s.framesValid = true then .next (s.raiseError .framesLocked (Command.word .buildFrames))
  else if gridComplete s = false then .next s.markFault
  else .next { s with pix := buildImages s.cfg (gridWord s) s.pix }.publish

end Sys2Proof.Machine
end

