-- ==== Sys2Proof/Machine/HostPort.lean ====
section
/-! DEFINITION. The host interface: NOP, ACK_PRESENT and the port transactions (43_host_interface R180 to R188). -/

namespace Sys2Proof.Machine

/-- NOP, command word 0x00000000 (43_host_interface R180). -/
def execNop (s : State) : Host.Outcome State Fault Refusal := .next s

/-- ACK_PRESENT, command word 0x00000005 (43_host_interface R181). -/
def execAckPresent (s : State) : Host.Outcome State Fault Refusal := .next { s with pend := false }

/-- Execute a command (30_encoding R76). -/
def runCommand (c : Command) (s : State) : Host.Outcome State Fault Refusal :=
  match c with
  | .nop => execNop s
  | .rasterCell false => execRasterCell s
  | .rasterCell true => execRasterCellS s
  | .buildFrames => execBuildFrames s
  | .blinkStart => execBlinkStart s
  | .blinkCheck => execBlinkCheck s
  | .ackPresent => execAckPresent s

/-- Execute a word written to CMD (30_encoding R78): the command it carries, or ILLEGAL_CMD. -/
def runCommandWord (w : Word) (s : State) : Host.Outcome State Fault Refusal :=
  match decodeCommand w with
  | some c => runCommand c s
  | none => .next (s.raiseError .illegalCmd w)

/-- Store into a register, other than CMD (43_host_interface R182, 30_encoding R85): a writable register takes the value,
CELL its low 16 bits; a write to any other is ignored. -/
def State.storeReg (r : Reg) (data : Word) (s : State) : State :=
  match r with
  | .cell => { s with cell := data.extractLsb' 0 16 }
  | .dstBase => { s with dstBase := data }
  | .dstStride => { s with dstStride := data }
  | .now => { s with now := data }
  | .cmd => s
  | .status => s
  | .deadline => s
  | .period => s
  | .geom => s
  | .errCmd => s
  | .palette _ => s

/-- REG_WR (43_host_interface R182): a write to CMD executes the word, a write to an unmapped offset is ignored. -/
def execRegWr (off : Offset) (data : Word) (s : State) : Host.Outcome State Fault Refusal :=
  if Offset.aligned off = false then .refused (.misalignedOffset off)
  else
    match regOfOffset off with
    | some .cmd => runCommandWord data s
    | some r => .next (s.storeReg r data)
    | none => .next s

/-- The value REG_RD returns at an offset: 0 for the unmapped offsets (43_host_interface R183, 30_encoding R85). -/
def State.readOffset (s : State) (off : Offset) : Word :=
  match regOfOffset off with
  | some r => s.regValue r
  | none => 0#32

/-- REG_RD (43_host_interface R183). -/
def execRegRd (off : Offset) (s : State) : Host.Outcome State Fault Refusal :=
  if Offset.aligned off = false then .refused (.misalignedOffset off)
  else .next (s.respond (.reg (s.readOffset off)))

/-- GRID_WR (43_host_interface R185). -/
def execGridWr (i : Word) (data : CellWord) (s : State) : Host.Outcome State Fault Refusal :=
  if i.toNat < s.cfg.cells then .next { s with grid := s.grid.write i.toNat data } else .next s

/-- GRID_RD (43_host_interface R188). A word never written since power-up reads as a free value, with the fault mark set
(log 9). -/
def execGridRd (i : Word) (s : State) : Host.Outcome State Fault Refusal :=
  if i.toNat < s.cfg.cells then
    .next (s.respondRead .grid (s.grid.read i.toNat) (Config.freeGridWord i.toNat))
  else .next (s.respond (.grid 0x0000#16))

/-- The unspecified value that pixel `a` holds while it is unwritten since reset (10_state R41; log 9). -/
def State.unwrittenPixel (s : State) (a : Nat) : Pixel := Config.freePixel s.resets a

/-- PIX_RD (43_host_interface R186). A pixel not written since reset reads as a free value, with the fault mark set
(log 9). -/
def execPixRd (a : Word) (s : State) : Host.Outcome State Fault Refusal :=
  if a.toNat < s.cfg.pixSize then
    .next (s.respondRead .pix (s.pix.read a.toNat) (s.unwrittenPixel a.toNat))
  else .next (s.respond (.pix 0x00#8))

/-- PRES_RD (43_host_interface R187): a read of the active image through the frame-select mux. A pixel not written since
reset reads as a free value, with the fault mark set (log 9). -/
def execPresRd (p : Word) (s : State) : Host.Outcome State Fault Refusal :=
  if p.toNat < s.cfg.img then
    .next (s.respondRead .pres (s.pix.read (imageBase s.cfg s.frameSel + p.toNat))
      (s.unwrittenPixel (imageBase s.cfg s.frameSel + p.toNat)))
  else .next (s.respond (.pres 0x00#8))

end Sys2Proof.Machine
end

