-- ==== Sys2Proof/Machine/Dispatch.lean ====
section
/-! DEFINITION. The dispatch: one arm per instruction, each a direct call of its meaning. -/

namespace Sys2Proof.Machine

def exec (i : Instr) (s : State) : Host.Outcome State Fault Refusal :=
  match i with
  | .nop => Sys2Proof.Machine.execNop s
  | .rasterCell => Sys2Proof.Machine.execRasterCell s
  | .rasterCellS => Sys2Proof.Machine.execRasterCellS s
  | .buildFrames => Sys2Proof.Machine.execBuildFrames s
  | .blinkStart => Sys2Proof.Machine.execBlinkStart s
  | .blinkCheck => Sys2Proof.Machine.execBlinkCheck s
  | .ackPresent => Sys2Proof.Machine.execAckPresent s
  | .regWr off data => Sys2Proof.Machine.execRegWr off data s
  | .regRd off => Sys2Proof.Machine.execRegRd off s
  | .gridWr idx data => Sys2Proof.Machine.execGridWr idx data s
  | .gridRd idx => Sys2Proof.Machine.execGridRd idx s
  | .pixRd a => Sys2Proof.Machine.execPixRd a s
  | .presRd p => Sys2Proof.Machine.execPresRd p s

end Sys2Proof.Machine
end

