-- ==== Sys2Proof/Machine/Sequencer.lean ====
section
/-! DEFINITION. The command sequencer: it takes the host's next input and runs it as one atomic step (00_scope R12,
60_exceptions R220). The step of Machine/Step.lean is one call of it. -/

namespace Sys2Proof.Machine

/-- While a command is in progress the host may issue only a read of STATUS (70_reset_and_hazards R250). In the atomic
model BUSY is 0 at every transaction boundary (10_state R32; log 13). -/
def admitted (s : State) (i : Instr) : Bool := !s.busy || i == .regRd (Reg.offset .status)

/-- Run one transaction: decode it, set the refusal mark where it is not admitted, else execute it. -/
def runTransaction (t : Transaction) (s : State) : Host.Outcome State Fault Refusal :=
  match decode t with
  | .ok i => if admitted s i = true then exec i s else .next s.markRefusal
  | .error (.misalignedOffset off) => .refused (.misalignedOffset off)

/-- Run one host input: a transaction, or the reset input (70_reset_and_hazards R240). -/
def runInput (h : HostInput) (s : State) : Host.Outcome State Fault Refusal :=
  match h with
  | .txn t => runTransaction t s
  | .rst => .next s.applyReset

/-- Consume and run the next host input; with none the block waits (70_reset_and_hazards R241). An instance whose
parameters are not legal is refused (00_scope R9). -/
def runNext (s : State) : Host.Outcome State Fault Refusal :=
  if s.cfg.legal = false then .refused .configOutOfRange
  else
    match s.pending with
    | [] => .next s
    | h :: _ => runInput h s.dequeue

/-- Put a host input before all the others. -/
def State.placeInput (h : HostInput) (s : State) : State := { s with pending := h :: s.pending }

/-- The host's write of a table word to CMD: the word is `w`'s low `nbits` bits, the bits above them zero. -/
def commandWrite (nbits w : Nat) : Transaction := .regWr cmdOffset (BitVec.ofNat 32 (w % 2 ^ nbits))

end Sys2Proof.Machine
end

