-- ==== Sys2Proof/Machine/Step.lean ====
section
/-! DEFINITION. One step of the machine, and the state whose next step runs a given word of the opcode table. -/

namespace Sys2Proof.Machine

/-- One step: the command sequencer takes the host's next input (00_scope R12). -/
def step (s : State) : Host.Outcome State Fault Refusal := runNext s

/-- `s` with the host's write of the table word `w` to CMD as its next input (log 2): the next step runs it. -/
def State.withFetchWord (s : State) (nbits w : Nat) : State := s.placeInput (.txn (commandWrite nbits w))

end Sys2Proof.Machine
end

