-- ==== Sys2Proof/Safety.lean ====
section
/-! DEFINITION. What counts as a safe state and a safe run, in the terms the claims use: the invariants of 10_state R46,
the successful observation of 43_host_interface R191, and the sequence of scheduling checks of 42_blink_scheduler R159. -/

namespace Sys2Proof.Machine

/-- A state a run may successfully end in: neither mark is set (43_host_interface R191, 60_exceptions R214). -/
def State.Successful (s : State) : Prop := s.faultMark = false ∧ s.refusalMark = false

/-- The register invariants of 10_state R46. -/
structure State.StatusInv (s : State) : Prop where
  pend_valid : s.pend = true → s.framesValid = true
  err_code : s.err = false ↔ s.errCode = .none
  err_cmd : s.err = false → s.errCmd = 0#32
  armed_phase : s.armed = false → s.phase = .visible
  not_busy : s.busy = false

/-- The memory invariants: both memories keep the canonical form and stay inside their spaces (20_memory R52, R54), every
written pixel is a palette index (R55), and valid frames are complete (10_state R46). -/
structure State.MemoryInv (s : State) : Prop where
  grid_wf : s.grid.wf
  pix_wf : s.pix.wf
  grid_range : ∀ i, s.grid.written i = true → i < s.cfg.cells
  pix_range : ∀ a, s.pix.written a = true → a < s.cfg.pixSize
  pix_index : ∀ a v, s.pix.read a = some v → v.toNat < 16
  frames_full : s.framesValid = true → ∀ a, a < s.cfg.pixSize → s.pix.written a = true

/-- The invariant of the machine. -/
structure State.Inv (s : State) : Prop where
  status : s.StatusInv
  memory : s.MemoryInv

/-- The scheduler runs on the epoch `start`: while it is armed, the deadline is `start` plus a whole number of periods, and
the phase is VISIBLE after an even number of flips and SUPPRESSED after an odd one (42_blink_scheduler R157, R159). -/
def State.OnEpoch (start : Nat) (s : State) : Prop :=
  s.armed = true → ∃ flips : Nat, s.deadline.toNat = start + (flips + 1) * s.cfg.period ∧
    s.phase = if flips % 2 = 0 then .visible else .suppressed

/-- Run transactions in order. The answer is the last state and the times of the scheduling checks among them, which are
the values of NOW at each BLINK_CHECK (42_blink_scheduler R159). `none` where the decoder rejects a transaction or its
instruction answers no next state. -/
def runTransactions : List Transaction → State → Option (State × List Nat)
  | [], s => some (s, [])
  | t :: ts, s =>
    match decode t with
    | .error _ => none
    | .ok i =>
      match exec i s with
      | .next u =>
        (runTransactions ts u).map (fun r => (r.1, if i = .blinkCheck then s.now.toNat :: r.2 else r.2))
      | .fault _ => none
      | .refused _ => none

end Sys2Proof.Machine
end

