-- ==== Sys2Proof/Certificates/Slice0/Obligations.lean ====
section
/-! DEFINITION. The statements for the provers. Each docstring names the rule of the spec it formalises. A next state is
written as the old state with the fields that change, so each such equation is also the instruction's frame. -/

open Sys2Proof Sys2Proof.Machine

/-! ### Encoding and decoding -/

/-- Decoding the encoding of a well-formed instruction gives it back, with every operand (30_encoding R76, R78, R81). -/
def Obligations.EncodeThenDecode : Prop :=
  ∀ i : Instr, i.wellFormed = true → decode (encode i) = .ok i

/-- What a transaction decodes to is well formed and encodes to that transaction: no two transactions are one
instruction (30_encoding R78, R81). -/
def Obligations.DecodeThenEncode : Prop :=
  ∀ (t : Transaction) (i : Instr), decode t = .ok i → encode i = t ∧ i.wellFormed = true

/-- Words written out from the table of 30_encoding R76 decode to the commands they stand for, and offsets from the table
of R82 to the registers. A sanity statement. -/
def Obligations.SampleWordsDecode : Prop :=
  decode (.regWr 0x000#12 0x00000011#32) = .ok .rasterCellS ∧
  decode (.regWr 0x000#12 0x00000002#32) = .ok .buildFrames ∧
  decode (.regWr 0x000#12 0x00000004#32) = .ok .blinkCheck ∧
  decode (.regWr 0x000#12 0x00000005#32) = .ok .ackPresent ∧
  decode (.regWr 0x000#12 0x00000010#32) = .ok (.regWr 0x000#12 0x00000010#32) ∧
  decode (.regWr 0x014#12 0x00000003#32) = .ok (.regWr 0x014#12 0x00000003#32) ∧
  regOfOffset 0x018#12 = some .deadline ∧ regOfOffset 0x07C#12 = some (.palette 15) ∧ regOfOffset 0x028#12 = none

/-- Command decode is total: each of the seven legal words runs its command, and every other word raises ILLEGAL_CMD with
that word, whose error entry is the only effect (30_encoding R78, R79). -/
def Obligations.CmdWriteRunsTheSevenLegalWords : Prop :=
  ∀ (w : Word) (s : State), exec (.regWr 0x000#12 w) s =
    if w = 0x00000000#32 then exec .nop s
    else if w = 0x00000001#32 then exec .rasterCell s
    else if w = 0x00000011#32 then exec .rasterCellS s
    else if w = 0x00000002#32 then exec .buildFrames s
    else if w = 0x00000003#32 then exec .blinkStart s
    else if w = 0x00000004#32 then exec .blinkCheck s
    else if w = 0x00000005#32 then exec .ackPresent s
    else .next (s.raiseError .illegalCmd w)

/-- A register offset whose bits 1:0 are not 0 is not carried by the port: the decoder rejects it by name, and so do the
meanings of the two register transactions (20_memory R51; the rejection is the model's, log 4). -/
def Obligations.MisalignedOffsetRejected : Prop :=
  ∀ (off : Offset) (data : Word) (s : State), off.extractLsb' 0 2 ≠ 0#2 →
    decode (.regWr off data) = .error (.misalignedOffset off) ∧
    decode (.regRd off) = .error (.misalignedOffset off) ∧
    exec (.regWr off data) s = .refused (.misalignedOffset off) ∧
    exec (.regRd off) s = .refused (.misalignedOffset off)

/-! ### The step -/

/-- A step runs the decoded transaction: when the next host input is a transaction that decodes to `i`, the step is `exec`
of `i` with that input consumed (00_scope R12, log 1). -/
def Obligations.StepRunsTheDecodedTransaction : Prop :=
  ∀ (s : State) (t : Transaction) (rest : List HostInput) (i : Instr),
    s.cfg.legal = true → s.busy = false → s.pending = .txn t :: rest → decode t = .ok i →
    step s = exec i { s with pending := rest }

/-- With no host input the block waits: nothing changes (70_reset_and_hazards R241, log 1). -/
def Obligations.StepWaitsWithoutInput : Prop :=
  ∀ s : State, s.cfg.legal = true → s.pending = [] → step s = .next s

/-- The reset input: every register and STATUS field takes its reset value and every pixel becomes unwritten; the grid
space, the glyph table, PERIOD, GEOM, PALETTE, the event trace and the marks stay; power-up is reset with an all-unwritten
grid and an empty event trace (70_reset_and_hazards R240; that the responses and the inputs not yet consumed stay, and that
the model counts the resets, is the model's, log 16). -/
def Obligations.ResetInputSetsEveryRegister : Prop :=
  (∀ (s : State) (rest : List HostInput), s.cfg.legal = true → s.pending = .rst :: rest →
    ∃ t, step s = .next t ∧
      t = { s with
        cell := 0#16, dstBase := 0#32, dstStride := 0#32, now := 0#32, deadline := 0#32, errCmd := 0#32
        framesValid := false, armed := false, phase := .visible, pend := false, busy := false, err := false
        errCode := .none, pix := [], resets := s.resets + 1, pending := rest } ∧
      t.statusWord = 0#32 ∧ ∀ a, t.pix.read a = none) ∧
  State.reset.applyReset = { State.reset with resets := State.reset.resets + 1 } ∧
  (∀ i, State.reset.grid.read i = none) ∧ State.reset.presents = []

/-- The state right after power-up: image V is selected, nothing is requested, STATUS reads 0, and BLINK_CHECK raises
NOT_ARMED (70_reset_and_hazards R241, 10_state R45). -/
def Obligations.StateRightAfterPowerUp : Prop :=
  State.reset.frameSel = .visible ∧ imageBase State.reset.cfg State.reset.frameSel = 0 ∧
  State.reset.presentReq = false ∧ State.reset.statusWord = 0#32 ∧
  (∃ t, exec .blinkCheck State.reset = .next t ∧ t.errCode = .notArmed ∧ t.statusWord = 0x00000420#32) ∧
  (∃ t, exec .rasterCell State.reset = .next t ∧ t.statusWord = 0#32)

/-- An instance whose parameters are outside the legal ranges is refused (00_scope R9). -/
def Obligations.IllegalConfigurationRefused : Prop :=
  ∀ s : State,
    ¬(1 ≤ s.cfg.rows ∧ s.cfg.rows ≤ 255 ∧ 1 ≤ s.cfg.cols ∧ s.cfg.cols ≤ 255 ∧ 1 ≤ s.cfg.cellW ∧ s.cfg.cellW ≤ 32 ∧
      1 ≤ s.cfg.cellH ∧ s.cfg.cellH ≤ 255 ∧ 2 * (s.cfg.rows * s.cfg.cellH * s.cfg.cols * s.cfg.cellW) ≤ 2 ^ 32 ∧
      1 ≤ s.cfg.period ∧ s.cfg.period < 2 ^ 32) →
    step s = .refused .configOutOfRange

/-- While BUSY = 1 a transaction other than a read of STATUS is given no meaning: it sets the refusal mark and changes
nothing else. A read of STATUS runs (70_reset_and_hazards R250; no step sets BUSY). -/
def Obligations.BusyAdmitsOnlyStatusReads : Prop :=
  ∀ (s : State) (t : Transaction) (rest : List HostInput) (i : Instr),
    s.cfg.legal = true → s.busy = true → s.pending = .txn t :: rest → decode t = .ok i →
    step s = if i = .regRd 0x004#12 then exec i { s with pending := rest }
      else .next { s with pending := rest, refusalMark := true }

/-- No transaction stops a legal instance: unless the next input is a register access at an offset the port cannot carry,
a step answers a next state, in every state (43_host_interface R184, R191). -/
def Obligations.EveryStepOfALegalInstanceCompletes : Prop :=
  ∀ s : State, s.cfg.legal = true →
    (∀ off data, s.pending.head? = some (.txn (.regWr off data)) → off.extractLsb' 0 2 = 0#2) →
    (∀ off, s.pending.head? = some (.txn (.regRd off)) → off.extractLsb' 0 2 = 0#2) →
    ∃ t, step s = .next t

/-! ### Registers -/

/-- A write to a writable register stores its value and does nothing else; CELL keeps the low 16 bits
(43_host_interface R182, 10_state R22, 30_encoding R85). -/
def Obligations.RegWriteStoresIntoTheOperandRegisters : Prop :=
  ∀ (data : Word) (s : State),
    exec (.regWr 0x008#12 data) s = .next { s with cell := data.extractLsb' 0 16 } ∧
    exec (.regWr 0x00C#12 data) s = .next { s with dstBase := data } ∧
    exec (.regWr 0x010#12 data) s = .next { s with dstStride := data } ∧
    exec (.regWr 0x014#12 data) s = .next { s with now := data }

/-- A write to a read-only register or to an unmapped offset is ignored (30_encoding R85): every offset but CMD and the
four operand registers. -/
def Obligations.RegWriteElsewhereIgnored : Prop :=
  ∀ (off : Offset) (data : Word) (s : State), off.extractLsb' 0 2 = 0#2 →
    off ≠ 0x000#12 → off ≠ 0x008#12 → off ≠ 0x00C#12 → off ≠ 0x010#12 → off ≠ 0x014#12 →
    exec (.regWr off data) s = .next s

/-- A register read returns the register's value and has no side effect: 0 for CMD and for the unmapped offsets
(43_host_interface R183, 30_encoding R82). The returned value is appended to the model's own list of responses. -/
def Obligations.RegReadReturnsTheMappedRegister : Prop :=
  ∀ (off : Offset) (s : State), off.extractLsb' 0 2 = 0#2 →
    exec (.regRd off) s = .next { s with responses := s.responses ++ [.reg (
      if off = 0x004#12 then s.statusWord
      else if off = 0x008#12 then s.cell.setWidth 32
      else if off = 0x00C#12 then s.dstBase
      else if off = 0x010#12 then s.dstStride
      else if off = 0x014#12 then s.now
      else if off = 0x018#12 then s.deadline
      else if off = 0x01C#12 then s.cfg.periodWord
      else if off = 0x020#12 then s.cfg.geom
      else if off = 0x024#12 then s.errCmd
      else if 0x040 ≤ off.toNat ∧ off.toNat < 0x080 then (s.cfg.paletteEntry (Fin.ofNat 16 ((off.toNat - 0x040) / 4))).word
      else 0#32)] }

/-- The bits of STATUS and the numbers of the error codes (30_encoding R84, 60_exceptions R210). -/
def Obligations.StatusBitsAreLaidOut : Prop :=
  ∀ s : State,
    s.statusWord.getLsbD 0 = s.framesValid ∧ s.statusWord.getLsbD 1 = s.armed ∧
    s.statusWord.getLsbD 2 = decide (s.phase = .suppressed) ∧ s.statusWord.getLsbD 3 = s.pend ∧
    s.statusWord.getLsbD 4 = s.busy ∧ s.statusWord.getLsbD 5 = s.err ∧
    s.statusWord.extractLsb' 6 2 = 0#2 ∧ s.statusWord.extractLsb' 12 20 = 0#20 ∧
    s.statusWord.extractLsb' 8 4 =
      match s.errCode with
      | .none => 0x0#4
      | .illegalCmd => 0x1#4
      | .framesLocked => 0x2#4
      | .dstRange => 0x3#4
      | .notArmed => 0x4#4
      | .alreadyArmed => 0x5#4
      | .timeOverflow => 0x6#4

/-- The constants of this hardware: PERIOD, the sizes of the two spaces, GEOM by the layout of 30_encoding R83 (DEDUCED:
the number that R37 and R83 print is not this layout's, log 18), and the two palette entries the spec fixes (white as all
ones is PRESUMED, log 7). -/
def Obligations.ConstantsOfThisHardware : Prop :=
  State.reset.cfg.legal = true ∧ State.reset.cfg.periodWord = 0x000000E0#32 ∧
  State.reset.cfg.cells = 2000 ∧ State.reset.cfg.img = 256000 ∧ State.reset.cfg.imgStride = 640 ∧
  State.reset.cfg.pixSize = 512000 ∧ State.reset.cfg.geom = 0x10085019#32 ∧
  (State.reset.cfg.paletteEntry 0).word = 0x00000000#32 ∧ (State.reset.cfg.paletteEntry 15).word = 0x00FFFFFF#32

/-- GEOM reports the parameters, each in its own byte, in every legal instance, this hardware's among them (30_encoding R83,
10_state R37; that the layout is followed where the printed number differs from it is DEDUCED, log 18). -/
def Obligations.GeomBytesAreTheParameters : Prop :=
  ∀ s : State, s.cfg.legal = true →
    (s.cfg.geom.extractLsb' 0 8).toNat = s.cfg.rows ∧ (s.cfg.geom.extractLsb' 8 8).toNat = s.cfg.cols ∧
    (s.cfg.geom.extractLsb' 16 8).toNat = s.cfg.cellW ∧ (s.cfg.geom.extractLsb' 24 8).toNat = s.cfg.cellH

/-- PERIOD reports the blink period, in every legal instance (10_state R36). -/
def Obligations.PeriodReportsTheParameter : Prop :=
  ∀ s : State, s.cfg.legal = true →
    ∃ v, exec (.regRd 0x01C#12) s = .next { s with responses := s.responses ++ [.reg v] } ∧ v.toNat = s.cfg.period

/-- A PALETTE register is red in bits 23:16, green in 15:8, blue in 7:0 and zero in 31:24, for every entry (30_encoding
R73), and entry `i` of a listed palette is the `i`-th of its list (10_state R38). -/
def Obligations.PaletteRegisterLayout : Prop :=
  ∀ (c : Config) (i : Fin 16),
    (c.paletteEntry i).word.extractLsb' 16 8 = (c.paletteEntry i).red ∧
    (c.paletteEntry i).word.extractLsb' 8 8 = (c.paletteEntry i).green ∧
    (c.paletteEntry i).word.extractLsb' 0 8 = (c.paletteEntry i).blue ∧
    (c.paletteEntry i).word.extractLsb' 24 8 = 0#8 ∧
    ∀ l, c.palette = .entries l → l.length = 16 → l[i.val]? = some (c.paletteEntry i)

/-- The outputs: FRAME_SEL is PHASE and selects image V at 0 or image S at IMG (42_blink_scheduler R158), and `present_req`
is PEND (60_exceptions R217). -/
def Obligations.OutputsFollowTheRegisters : Prop :=
  ∀ s : State, s.frameSel = s.phase ∧ s.presentReq = s.pend ∧
    imageBase s.cfg s.frameSel = (if s.phase = .suppressed then s.cfg.img else 0)

/-! ### The grid, pixel and presentation ports -/

/-- GRID_WR writes one word of the grid and nothing else; out of range it is ignored (43_host_interface R185). -/
def Obligations.GridWriteWritesOneWord : Prop :=
  ∀ (i : Word) (data : CellWord) (s : State),
    (i.toNat < s.cfg.rows * s.cfg.cols →
      ∃ t, exec (.gridWr i data) s = .next t ∧ t = { s with grid := t.grid } ∧
        t.grid.read i.toNat = some data ∧ t.grid.written i.toNat = true ∧
        ∀ j, j ≠ i.toNat → t.grid.read j = s.grid.read j) ∧
    (s.cfg.rows * s.cfg.cols ≤ i.toNat → exec (.gridWr i data) s = .next s)

/-- GRID_RD returns the word, 0 out of range; a word never written sets the fault mark and returns some value
(43_host_interface R188; that the transaction completes with a free value is the model's, log 9). -/
def Obligations.GridReadReturnsTheWord : Prop :=
  ∀ (i : Word) (s : State),
    (s.cfg.rows * s.cfg.cols ≤ i.toNat →
      exec (.gridRd i) s = .next { s with responses := s.responses ++ [.grid 0x0000#16] }) ∧
    (∀ v, i.toNat < s.cfg.rows * s.cfg.cols → s.grid.read i.toNat = some v →
      exec (.gridRd i) s = .next { s with responses := s.responses ++ [.grid v] }) ∧
    (i.toNat < s.cfg.rows * s.cfg.cols → s.grid.written i.toNat = false →
      ∃ v, exec (.gridRd i) s =
        .next { s with responses := s.responses ++ [.grid v], faultMark := true })

/-- PIX_RD returns the pixel, 0 out of range; a pixel not written since reset sets the fault mark and returns some value
(43_host_interface R186; that the transaction completes with a free value is the model's, log 9). -/
def Obligations.PixelReadReturnsThePixel : Prop :=
  ∀ (a : Word) (s : State),
    (s.cfg.pixSize ≤ a.toNat → exec (.pixRd a) s = .next { s with responses := s.responses ++ [.pix 0x00#8] }) ∧
    (∀ v, a.toNat < s.cfg.pixSize → s.pix.read a.toNat = some v →
      exec (.pixRd a) s = .next { s with responses := s.responses ++ [.pix v] }) ∧
    (a.toNat < s.cfg.pixSize → s.pix.written a.toNat = false →
      ∃ v, exec (.pixRd a) s =
        .next { s with responses := s.responses ++ [.pix v], faultMark := true })

/-- PRES_RD reads the active image through the frame-select mux: image V at [0, IMG) while PHASE is VISIBLE, image S at
[IMG, 2·IMG) while it is SUPPRESSED (43_host_interface R187, 42_blink_scheduler R158; the free value is log 9). -/
def Obligations.PresentationReadGoesThroughTheMux : Prop :=
  ∀ (p : Word) (s : State),
    (s.cfg.img ≤ p.toNat → exec (.presRd p) s = .next { s with responses := s.responses ++ [.pres 0x00#8] }) ∧
    (∀ v, p.toNat < s.cfg.img → s.phase = .visible → s.pix.read p.toNat = some v →
      exec (.presRd p) s = .next { s with responses := s.responses ++ [.pres v] }) ∧
    (∀ v, p.toNat < s.cfg.img → s.phase = .suppressed → s.pix.read (s.cfg.img + p.toNat) = some v →
      exec (.presRd p) s = .next { s with responses := s.responses ++ [.pres v] }) ∧
    (p.toNat < s.cfg.img →
      s.pix.written ((if s.phase = .suppressed then s.cfg.img else 0) + p.toNat) = false →
      ∃ v, exec (.presRd p) s =
        .next { s with responses := s.responses ++ [.pres v], faultMark := true })

/-- A read of any space has no side effect and is idempotent (20_memory R59): it changes nothing but the model's own list of
responses and its fault mark, and the same read again returns the same value, written or not. That an unwritten element
keeps one free value is the model's (log 9). -/
def Obligations.ReadsAreIdempotent : Prop :=
  ∀ (i : Instr) (s t : State),
    (∃ off, i = .regRd off) ∨ (∃ idx, i = .gridRd idx) ∨ (∃ a, i = .pixRd a) ∨ (∃ p, i = .presRd p) →
    exec i s = .next t →
    ∃ r, t = { s with responses := s.responses ++ [r], faultMark := t.faultMark } ∧
      exec i t = .next { t with responses := t.responses ++ [r] }

/-- PRES is a view of PIX: presentation address `p` reads what PIX_RD reads at FRAME_SEL·IMG + p, an unwritten pixel too
(20_memory R56; the free value is log 9). -/
def Obligations.PresentationIsAViewOfThePixels : Prop :=
  ∀ (s : State) (p : Word), s.cfg.legal = true → p.toNat < s.cfg.img →
    ∃ v mark,
      exec (.presRd p) s = .next { s with responses := s.responses ++ [.pres v], faultMark := mark } ∧
      exec (.pixRd (BitVec.ofNat 32 ((if s.phase = .suppressed then s.cfg.img else 0) + p.toNat))) s =
        .next { s with responses := s.responses ++ [.pix v], faultMark := mark }

/-! ### NOP and ACK_PRESENT -/

/-- NOP changes nothing, and every other word with OP = 0 raises ILLEGAL_CMD (43_host_interface R180). -/
def Obligations.NopChangesNothing : Prop :=
  encode .nop = .regWr 0x000#12 0x00000000#32 ∧
  ∀ s : State, exec .nop s = .next s ∧
    ∀ w : Word, w.extractLsb' 0 4 = 0x0#4 → w ≠ 0#32 →
      exec (.regWr 0x000#12 w) s = .next (s.raiseError .illegalCmd w)

/-- ACK_PRESENT clears PEND and changes nothing else (43_host_interface R181). -/
def Obligations.AckClearsThePresentationRequest : Prop :=
  encode .ackPresent = .regWr 0x000#12 0x00000005#32 ∧
  ∀ s : State, exec .ackPresent s = .next { s with pend := false }

/-! ### The blink scheduler -/

/-- BLINK_START: ALREADY_ARMED, then TIME_OVERFLOW, else the phase is VISIBLE, the deadline is NOW + P exactly and the
scheduler is armed; nothing else changes (42_blink_scheduler R151). -/
def Obligations.BlinkStartArmsTheScheduler : Prop :=
  encode .blinkStart = .regWr 0x000#12 0x00000003#32 ∧
  ∀ s : State,
    (s.armed = true → exec .blinkStart s = .next (s.raiseError .alreadyArmed 0x00000003#32)) ∧
    (s.armed = false → 2 ^ 32 - 1 < s.now.toNat + s.cfg.period →
      exec .blinkStart s = .next (s.raiseError .timeOverflow 0x00000003#32)) ∧
    (s.armed = false → s.now.toNat + s.cfg.period ≤ 2 ^ 32 - 1 →
      ∃ t, exec .blinkStart s = .next t ∧ t.deadline.toNat = s.now.toNat + s.cfg.period ∧
        t = { s with phase := .visible, armed := true, deadline := t.deadline })

/-- BLINK_CHECK: NOT_ARMED; before the deadline nothing; at or after it TIME_OVERFLOW, or exactly one flip with the
deadline advanced by P from the prior deadline, and a presentation request of the new phase while the frames are valid
(42_blink_scheduler R155). -/
def Obligations.BlinkCheckFlipsOncePerDeadline : Prop :=
  encode .blinkCheck = .regWr 0x000#12 0x00000004#32 ∧
  ∀ s : State,
    (s.armed = false → exec .blinkCheck s = .next (s.raiseError .notArmed 0x00000004#32)) ∧
    (s.armed = true → s.now.toNat < s.deadline.toNat → exec .blinkCheck s = .next s) ∧
    (s.armed = true → s.deadline.toNat ≤ s.now.toNat → 2 ^ 32 - 1 < s.deadline.toNat + s.cfg.period →
      exec .blinkCheck s = .next (s.raiseError .timeOverflow 0x00000004#32)) ∧
    (s.armed = true → s.deadline.toNat ≤ s.now.toNat → s.deadline.toNat + s.cfg.period ≤ 2 ^ 32 - 1 →
      ∃ t, exec .blinkCheck s = .next t ∧ t.deadline.toNat = s.deadline.toNat + s.cfg.period ∧
        t.phase = (if s.phase = .visible then .suppressed else .visible) ∧
        t = { s with
          phase := t.phase
          deadline := t.deadline
          pend := s.framesValid || s.pend
          presents := if s.framesValid = true then s.presents ++ [t.phase] else s.presents })

/-- The phase follows elapsed time (42_blink_scheduler R159). BLINK_START runs at time T0 and then the host issues any
transactions, reads and other commands among them. The times of their scheduling checks do not decrease, and for each j
from 1 to k one lies in [T0 + j·P, T0 + (j+1)·P). After a check in interval k the phase is VISIBLE when k is even and
SUPPRESSED when k is odd, and the deadline is T0 + (k+1)·P. Where the rule says that no error has occurred, the premise here
is only that this deadline fits TIME_W bits, so runs with errors of other kinds are covered as well. -/
def Obligations.PhaseFollowsElapsedTime : Prop :=
  ∀ (s₀ s u : State) (ts : List Transaction) (times : List Nat) (last k : Nat),
    s₀.armed = false → exec .blinkStart s₀ = .next s → runTransactions ts s = some (u, times ++ [last]) →
    s₀.now.toNat + (k + 1) * s₀.cfg.period ≤ 2 ^ 32 - 1 →
    (times ++ [last]).Pairwise (fun a b => a ≤ b) → (∀ t ∈ times, s₀.now.toNat ≤ t) →
    (∀ j, 1 ≤ j → j ≤ k → ∃ t ∈ times ++ [last],
      s₀.now.toNat + j * s₀.cfg.period ≤ t ∧ t < s₀.now.toNat + (j + 1) * s₀.cfg.period) →
    s₀.now.toNat + k * s₀.cfg.period ≤ last → last < s₀.now.toNat + (k + 1) * s₀.cfg.period →
    u.phase = (if k % 2 = 0 then .visible else .suppressed) ∧
    u.deadline.toNat = s₀.now.toNat + (k + 1) * s₀.cfg.period

/-- The scheduler keeps its epoch (42_blink_scheduler R151, R157, R159): BLINK_START at time T0, where it arms the
scheduler, leaves the deadline at T0 + P with the phase VISIBLE, and while the scheduler is armed every step keeps the deadline a whole number of periods
after T0, with the phase the parity of the flips. -/
def Obligations.EveryStepKeepsTheEpoch : Prop :=
  (∀ s t : State, s.armed = false → exec .blinkStart s = .next t → t.armed = true →
    t.deadline.toNat = s.now.toNat + s.cfg.period ∧ t.phase = .visible ∧ t.OnEpoch s.now.toNat) ∧
  ∀ (start : Nat) (s t : State), s.armed = true → s.OnEpoch start → step s = .next t → t.OnEpoch start

/-! ### The cell rasterizer -/

/-- The attribute decoder reads each field from its bits of the cell word (40_glyph_rasterizer R101, 30_encoding R70). -/
def Obligations.CellFieldsAreTheirBits : Prop :=
  ∀ cell : CellWord,
    (decodeCell cell).code = cell.extractLsb' 0 8 ∧ (decodeCell cell).fg = cell.extractLsb' 8 4 ∧
    (decodeCell cell).bg = cell.extractLsb' 12 3 ∧ (decodeCell cell).blink = cell.getLsbD 15

/-- A host with a byte memory holds a cell as the glyph code and then the attribute byte, and those two bytes are the cell
again (20_memory R57). -/
def Obligations.HostBytesHoldTheCell : Prop :=
  ∀ cell : CellWord,
    hostBytes cell = [cell.extractLsb' 0 8, cell.extractLsb' 8 8] ∧
    cellOfHostBytes (cell.extractLsb' 0 8) (cell.extractLsb' 8 8) = cell

/-- Row `y` of glyph `code` is entry `code·H + y` of the glyph table (20_memory R53, 30_encoding R72). -/
def Obligations.GlyphRowIsItsTableEntry : Prop :=
  ∀ (c : Config) (l : List Word), c.glyphRom = .rows l → l.length = 256 * c.cellH →
    ∀ (code : BitVec 8) (y : Nat), y < c.cellH → l[code.toNat * c.cellH + y]? = some (c.glyphRow code y)

/-- The pixel function in closed form, and the lane view of one row (40_glyph_rasterizer R102, R103, R105): column `x` is bit
W-1-x of the glyph row, and the pixel is the foreground where that bit is 1 and the cell is not blink-suppressed, else the
background. Its bits 7:4 are 0. -/
def Obligations.PixelFunctionInClosedForm : Prop :=
  ∀ (c : Config) (cell : CellWord) (sup : Bool) (x y : Nat), x < c.cellW → y < c.cellH →
    (∀ code, glyphBit c code x y = (c.glyphRow code y).getLsbD (c.cellW - 1 - x)) ∧
    pixelOf c cell sup x y =
      (if (c.glyphRow (cell.extractLsb' 0 8) y).getLsbD (c.cellW - 1 - x) = true ∧ ¬(cell.getLsbD 15 = true ∧ sup = true)
        then (cell.extractLsb' 8 4).setWidth 8 else (cell.extractLsb' 12 3).setWidth 8) ∧
    (pixelOf c cell sup x y).extractLsb' 4 4 = 0#4 ∧
    (rowPixels c cell sup y).length = c.cellW ∧ (rowPixels c cell sup y)[x]? = some (pixelOf c cell sup x y)

/-- The properties of the pixel function (40_glyph_rasterizer R106), items 1 to 5, for every glyph table. -/
def Obligations.PixelFunctionHasItsProperties : Prop :=
  ∀ (c : Config) (cell : CellWord),
    (∀ sup x y, glyphBit c (decodeCell cell).code x y = false →
      pixelOf c cell sup x y = (decodeCell cell).bg.setWidth 8) ∧
    ((decodeCell cell).blink = true → ∀ x y, pixelOf c cell true x y = (decodeCell cell).bg.setWidth 8) ∧
    ((decodeCell cell).blink = false → ∀ x y, pixelOf c cell false x y = pixelOf c cell true x y) ∧
    ((decodeCell cell).fg = (decodeCell cell).bg.setWidth 4 →
      ∀ sup x y, pixelOf c cell sup x y = (decodeCell cell).bg.setWidth 8) ∧
    ((∀ y, y < c.cellH → ∀ b, b < c.cellW → (c.glyphRow (decodeCell cell).code y).getLsbD b = false) →
      ∀ sup x y, x < c.cellW → y < c.cellH → pixelOf c cell sup x y = (decodeCell cell).bg.setWidth 8) ∧
    ((∀ y, y < c.cellH → ∀ b, b < c.cellW → (c.glyphRow (decodeCell cell).code y).getLsbD b = true) →
      ∀ sup x y, x < c.cellW → y < c.cellH → ¬((decodeCell cell).blink = true ∧ sup = true) →
        pixelOf c cell sup x y = (decodeCell cell).fg.setWidth 8)

/-- RASTER_CELL and RASTER_CELL.S, where the frames are not valid and the highest address fits: each footprint address
holds the pixel of the last pair (y, x) that has it, where no two pairs share an address every pair's address holds its
pixel, every address outside the footprint is unchanged, and nothing else changes (40_glyph_rasterizer R112). -/
def Obligations.RasterCellWritesItsFootprint : Prop :=
  ∀ (s : State) (sup : Bool), s.framesValid = false →
    s.dstBase.toNat + (s.cfg.cellH - 1) * s.dstStride.toNat + (s.cfg.cellW - 1) < s.cfg.pixSize →
    ∃ t, exec (if sup = true then .rasterCellS else .rasterCell) s = .next t ∧ t = { s with pix := t.pix } ∧
      (∀ x y, x < s.cfg.cellW → y < s.cfg.cellH →
        (∀ x' y', x' < s.cfg.cellW → y' < s.cfg.cellH →
          s.dstBase.toNat + y' * s.dstStride.toNat + x' = s.dstBase.toNat + y * s.dstStride.toNat + x →
          y' < y ∨ (y' = y ∧ x' ≤ x)) →
        t.pix.read (s.dstBase.toNat + y * s.dstStride.toNat + x) = some (pixelOf s.cfg s.cell sup x y)) ∧
      (s.cfg.cellW ≤ s.dstStride.toNat ∨ s.cfg.cellH = 1 →
        ∀ x y, x < s.cfg.cellW → y < s.cfg.cellH →
          t.pix.read (s.dstBase.toNat + y * s.dstStride.toNat + x) = some (pixelOf s.cfg s.cell sup x y) ∧
          ∀ x' y', x' < s.cfg.cellW → y' < s.cfg.cellH →
            s.dstBase.toNat + y' * s.dstStride.toNat + x' = s.dstBase.toNat + y * s.dstStride.toNat + x →
            x' = x ∧ y' = y) ∧
      (∀ a, (∀ x y, x < s.cfg.cellW → y < s.cfg.cellH → s.dstBase.toNat + y * s.dstStride.toNat + x ≠ a) →
        t.pix.read a = s.pix.read a)

/-- The checks of RASTER_CELL, in order: FRAMES_LOCKED, then DST_RANGE on the sum without wrap-around, and no pixel is
written; every address the loop would write is at most that sum (40_glyph_rasterizer R111). -/
def Obligations.RasterCellChecksInOrder : Prop :=
  ∀ s : State,
    (s.framesValid = true →
      exec .rasterCell s = .next (s.raiseError .framesLocked 0x00000001#32) ∧
      exec .rasterCellS s = .next (s.raiseError .framesLocked 0x00000011#32)) ∧
    (s.framesValid = false →
      s.cfg.pixSize ≤ s.dstBase.toNat + (s.cfg.cellH - 1) * s.dstStride.toNat + (s.cfg.cellW - 1) →
      exec .rasterCell s = .next (s.raiseError .dstRange 0x00000001#32) ∧
      exec .rasterCellS s = .next (s.raiseError .dstRange 0x00000011#32)) ∧
    (∀ x y, x < s.cfg.cellW → y < s.cfg.cellH →
      s.dstBase.toNat + y * s.dstStride.toNat + x ≤
        s.dstBase.toNat + (s.cfg.cellH - 1) * s.dstStride.toNat + (s.cfg.cellW - 1))

/-- With stride 0 every row writes the same W addresses, and they end holding row H-1 (40_glyph_rasterizer R113). -/
def Obligations.StrideZeroLeavesTheLastRow : Prop :=
  ∀ (s : State) (sup : Bool), s.framesValid = false → 1 ≤ s.cfg.cellH → s.dstStride = 0#32 →
    s.dstBase.toNat + (s.cfg.cellW - 1) < s.cfg.pixSize →
    ∃ t, exec (if sup = true then .rasterCellS else .rasterCell) s = .next t ∧
      (∀ x, x < s.cfg.cellW →
        t.pix.read (s.dstBase.toNat + x) = some (pixelOf s.cfg s.cell sup x (s.cfg.cellH - 1))) ∧
      (∀ a, a < s.dstBase.toNat ∨ s.dstBase.toNat + s.cfg.cellW ≤ a → t.pix.read a = s.pix.read a)

/-- RASTER_CELL depends on nothing but CELL, DST_BASE, DST_STRIDE, FRAMES_VALID and the instance's tables: two states that
agree on these, and on the pixel at an address, agree on that pixel afterwards (40_glyph_rasterizer R114). -/
def Obligations.RasterCellDependsOnItsOperands : Prop :=
  ∀ (s u : State) (i : Instr), i = .rasterCell ∨ i = .rasterCellS →
    s.cfg = u.cfg → s.cell = u.cell → s.dstBase = u.dstBase → s.dstStride = u.dstStride → s.framesValid = u.framesValid →
    ∃ t v, exec i s = .next t ∧ exec i u = .next v ∧
      ∀ a, s.pix.read a = u.pix.read a → t.pix.read a = v.pix.read a

/-! ### The frame builder -/

/-- BUILD_FRAMES on a complete grid: every pixel of image V and of image S is the pixel function of its cell, without and
with blink suppression, and the command publishes: FRAMES_VALID and PEND are 1 and the current phase is presented; nothing
else changes, and no address at or above PIX_SIZE (41_frame_builder R133, R134). -/
def Obligations.BuildFramesRastersBothImages : Prop :=
  ∀ s : State, s.framesValid = false → (∀ i, i < s.cfg.rows * s.cfg.cols → s.grid.written i = true) →
    ∃ t, exec .buildFrames s = .next t ∧
      t = { s with pix := t.pix, framesValid := true, pend := true, presents := s.presents ++ [s.phase] } ∧
      (∀ py px cell, py < s.cfg.rows * s.cfg.cellH → px < s.cfg.cols * s.cfg.cellW →
        s.grid.read ((py / s.cfg.cellH) * s.cfg.cols + px / s.cfg.cellW) = some cell →
        t.pix.read (py * s.cfg.imgStride + px) =
          some (pixelOf s.cfg cell false (px % s.cfg.cellW) (py % s.cfg.cellH)) ∧
        t.pix.read (s.cfg.img + py * s.cfg.imgStride + px) =
          some (pixelOf s.cfg cell true (px % s.cfg.cellW) (py % s.cfg.cellH))) ∧
      (∀ a, a < s.cfg.pixSize → t.pix.written a = true) ∧
      (∀ a, s.cfg.pixSize ≤ a → t.pix.read a = s.pix.read a)

/-- BUILD_FRAMES with valid frames raises FRAMES_LOCKED; with a grid word never written it sets the fault mark and has no
effect (41_frame_builder R137, R131; log 10). -/
def Obligations.BuildFramesLockedOrIncomplete : Prop :=
  ∀ s : State,
    (s.framesValid = true → exec .buildFrames s = .next (s.raiseError .framesLocked 0x00000002#32)) ∧
    (∀ i, s.framesValid = false → i < s.cfg.rows * s.cfg.cols → s.grid.written i = false →
      exec .buildFrames s = .next { s with faultMark := true })

/-- The images depend only on the grid and the glyph table: two builds from one grid give the same images, whatever the
pixels and the registers were (41_frame_builder R138, item 1). -/
def Obligations.BuildFramesForgetsThePast : Prop :=
  ∀ s u : State, s.cfg = u.cfg → s.framesValid = false → u.framesValid = false →
    (∀ i, i < s.cfg.rows * s.cfg.cols → s.grid.written i = true ∧ s.grid.read i = u.grid.read i) →
    ∃ t v, exec .buildFrames s = .next t ∧ exec .buildFrames u = .next v ∧
      ∀ a, a < s.cfg.pixSize → t.pix.read a = v.pix.read a

/-- After BUILD_FRAMES the sub-rectangle of a cell that does not blink is the same in both images, and that of a cell that
blinks is solid background in image S (41_frame_builder R138, items 2 and 3). -/
def Obligations.BlinkingCellsAreBlankInTheSuppressedImage : Prop :=
  ∀ (s t : State), s.framesValid = false → (∀ i, i < s.cfg.rows * s.cfg.cols → s.grid.written i = true) →
    exec .buildFrames s = .next t →
    ∀ row col x y cell, row < s.cfg.rows → col < s.cfg.cols → x < s.cfg.cellW → y < s.cfg.cellH →
      s.grid.read (row * s.cfg.cols + col) = some cell →
      (cell.getLsbD 15 = false →
        t.pix.read (s.cfg.img + (row * s.cfg.cellH + y) * s.cfg.imgStride + (col * s.cfg.cellW + x)) =
          t.pix.read ((row * s.cfg.cellH + y) * s.cfg.imgStride + (col * s.cfg.cellW + x))) ∧
      (cell.getLsbD 15 = true →
        t.pix.read (s.cfg.img + (row * s.cfg.cellH + y) * s.cfg.imgStride + (col * s.cfg.cellW + x)) =
          some ((cell.extractLsb' 12 3).setWidth 8))

/-! ### Errors -/

/-- Error entry: the first error records its code and the command word, a later one keeps them, ERR is set, the model's
fault mark is set, and nothing else changes (60_exceptions R213, R214). -/
def Obligations.ErrorEntryKeepsTheFirstError : Prop :=
  ∀ (code : ErrCode) (w : Word) (s : State),
    (s.err = false → s.raiseError code w =
      { s with err := true, errCode := code, errCmd := w, faultMark := true }) ∧
    (s.err = true → s.raiseError code w = { s with faultMark := true })

/-- An erroneous command changes nothing except ERR, ERR_CODE, ERR_CMD and the model's fault mark, and ERR_CMD is the word
whose write to CMD is that command: over every instruction (60_exceptions R213). -/
def Obligations.ErroneousCommandChangesOnlyTheErrorRegisters : Prop :=
  ∀ (i : Instr) (s t : State), exec i s = .next t → s.err = false → t.err = true →
    t = { s with err := true, errCode := t.errCode, errCmd := t.errCmd, faultMark := true } ∧
    t.errCode ≠ .none ∧ encode i = .regWr 0x000#12 t.errCmd

/-- ERR, ERR_CODE and ERR_CMD are sticky: no instruction clears or changes them once ERR is set (60_exceptions R215,
10_state R33). -/
def Obligations.ErrorsAreStickyUntilReset : Prop :=
  ∀ (i : Instr) (s t : State), exec i s = .next t → s.err = true →
    t.err = true ∧ t.errCode = s.errCode ∧ t.errCmd = s.errCmd

/-! ### The whole machine -/

/-- The invariant of the machine holds at power-up (10_state R46). -/
def Obligations.InvariantHoldsAtPowerUp : Prop := State.reset.Inv

/-- Every step keeps the invariant of the machine: the register invariants of 10_state R46, the canonical form of both
memories, the ranges of the grid and pixel spaces, every pixel a palette index (20_memory R55), and valid frames complete. -/
def Obligations.EveryStepKeepsTheInvariant : Prop :=
  ∀ s t : State, s.Inv → step s = .next t → t.Inv

/-- The glyph table, PERIOD, GEOM and PALETTE are constant: no step changes the instance's parameters
(10_state R36 to R39). -/
def Obligations.NoStepChangesTheConstants : Prop :=
  ∀ s t : State, step s = .next t → t.cfg = s.cfg

/-- Nothing ever clears the fault mark or the refusal mark, and the event trace only grows (10_state R44). -/
def Obligations.MarksAndTraceOnlyGrow : Prop :=
  ∀ s t : State, step s = .next t →
    (s.faultMark = true → t.faultMark = true) ∧ (s.refusalMark = true → t.refusalMark = true) ∧
    ∃ l, t.presents = s.presents ++ l

/-- While FRAMES_VALID is 1 the images are read-only and stay valid: no instruction changes a pixel
(10_state R28, 20_memory R65). -/
def Obligations.PublishedImagesAreReadOnly : Prop :=
  ∀ (i : Instr) (s t : State), exec i s = .next t → s.framesValid = true → t.pix = s.pix ∧ t.framesValid = true

/-- A presentation event is emitted in exactly two places, at publish with the current phase and at a flip while the
frames are valid with the new phase, and every emission sets PEND; where none is emitted no instruction sets PEND
(42_blink_scheduler R161). -/
def Obligations.PresentEventsComeFromPublishAndFlip : Prop :=
  ∀ (i : Instr) (s t : State), exec i s = .next t →
    (t.presents = s.presents ∧ (t.pend = true → s.pend = true) ∧
      (s.framesValid = false → t.framesValid = false) ∧ (s.framesValid = true → t.phase = s.phase ∨ s.armed = false)) ∨
    (t.presents = s.presents ++ [t.phase] ∧ t.pend = true ∧ s.framesValid = false ∧ t.framesValid = true ∧
      t.phase = s.phase) ∨
    (t.presents = s.presents ++ [t.phase] ∧ t.pend = true ∧ s.framesValid = true ∧ t.phase ≠ s.phase)

/-- The grid space is the host's: no instruction but GRID_WR changes it, and a change of the grid changes no pixel
(10_state R40, 20_memory R65). -/
def Obligations.OnlyGridWritesChangeTheGrid : Prop :=
  ∀ (i : Instr) (s t : State), exec i s = .next t → t.grid ≠ s.grid →
    (∃ idx data, i = .gridWr idx data) ∧ t.pix = s.pix
end

