-- ==== Sys2Proof/Laws/Codec.lean ====
section
/-! SUPPORT. The laws of the command decoder: a word that decodes to a command is that command's word. -/

namespace Sys2Proof

/-- A command word is its three fields (30_encoding R75). -/
theorem word_eq_fields (w : Word) : w = resField w ++ BitVec.ofBool (supField w) ++ opField w := by
  unfold resField supField opField
  apply BitVec.eq_of_getLsbD_eq
  intro i hi
  simp only [BitVec.getLsbD_append, BitVec.getLsbD_extractLsb', BitVec.getLsbD_ofBool]
  interval_cases i <;> simp

/-- Decoding a command's word gives the command back (30_encoding R76, R78). -/
theorem decodeCommand_word (c : Command) : decodeCommand c.word = some c := by
  cases c with
  | rasterCell sup => cases sup <;> decide
  | nop => decide
  | buildFrames => decide
  | blinkStart => decide
  | blinkCheck => decide
  | ackPresent => decide

/-- A word that decodes to a command is that command's word: the reserved bits are all fixed (30_encoding R78, R79). -/
theorem word_of_decodeCommand {w : Word} {c : Command} (h : decodeCommand w = some c) : w = c.word := by
  unfold decodeCommand at h
  split at h
  · cases h
  rename_i hn
  obtain ⟨hr, hs⟩ := not_or.1 hn
  rw [word_eq_fields w, not_not.1 hr]
  unfold commandOfOp at h
  cases hsup : supField w
  · rw [hsup] at h
    split_ifs at h with h0 h1 h2 h3 h4 h5 <;> cases h
    · rw [h0]; rfl
    · rw [h1]; rfl
    · rw [h2]; rfl
    · rw [h3]; rfl
    · rw [h4]; rfl
    · rw [h5]; rfl
  · have ho : opField w = 0x1#4 := by
      by_contra hne
      exact hs ⟨hsup, hne⟩
    rw [hsup, ho] at h
    rw [ho]
    cases h
    rfl

/-- The encoding of a command is a write of its word to CMD (30_encoding R81). -/
theorem encode_toInstr (c : Command) : encode c.toInstr = .regWr cmdOffset c.word := by
  cases c with
  | rasterCell sup => cases sup <;> rfl
  | nop => rfl
  | buildFrames => rfl
  | blinkStart => rfl
  | blinkCheck => rfl
  | ackPresent => rfl

end Sys2Proof
end

