-- ==== Sys2Proof/Laws/Memory.lean ====
section
/-! SUPPORT. The laws of the memories: a read after a write, and that a write keeps the canonical form. -/

namespace Sys2Proof.Machine

variable {w : Nat}

@[simp] theorem Memory.read_nil (a : Nat) : Memory.read ([] : Memory w) a = none := rfl

@[simp] theorem Memory.written_nil (a : Nat) : Memory.written ([] : Memory w) a = false := rfl

theorem Memory.read_cons (b : Nat) (u : BitVec w) (m : Memory w) (a : Nat) :
    Memory.read ((b, u) :: m) a = if a = b then some u else Memory.read m a := rfl

/-- A read after a write: the value written at that address, the old value elsewhere. -/
theorem Memory.read_write (m : Memory w) (a c : Nat) (v : BitVec w) :
    Memory.read (Memory.write m a v) c = if c = a then some v else Memory.read m c := by
  induction m with
  | nil => simp [Memory.write, Memory.read]
  | cons p m ih =>
    obtain ⟨b, u⟩ := p
    simp only [Memory.write]
    split_ifs <;> simp_all [Memory.read_cons]

@[simp] theorem Memory.read_write_same (m : Memory w) (a : Nat) (v : BitVec w) :
    Memory.read (Memory.write m a v) a = some v := by simp [Memory.read_write]

theorem Memory.read_write_of_ne (m : Memory w) {a c : Nat} (v : BitVec w) (h : c ≠ a) :
    Memory.read (Memory.write m a v) c = Memory.read m c := by simp [Memory.read_write, h]

theorem Memory.written_write (m : Memory w) (a c : Nat) (v : BitVec w) :
    Memory.written (Memory.write m a v) c = (decide (c = a) || Memory.written m c) := by
  by_cases h : c = a <;> simp [Memory.written, Memory.read_write, h]

/-- Two writes to one address: the later one. -/
theorem Memory.write_write_same (m : Memory w) (a : Nat) (u v : BitVec w) :
    Memory.write (Memory.write m a u) a v = Memory.write m a v := by
  induction m with
  | nil => simp [Memory.write]
  | cons p m ih =>
    obtain ⟨b, t⟩ := p
    simp only [Memory.write]
    split_ifs <;> simp_all [Memory.write]

/-- Every address of a memory after a write is the address written or an old one. -/
theorem Memory.mem_write {m : Memory w} {a : Nat} {v : BitVec w} {p : Nat × BitVec w}
    (h : p ∈ Memory.write m a v) : p.1 = a ∨ p ∈ m := by
  induction m with
  | nil => simp_all [Memory.write]
  | cons q m ih =>
    obtain ⟨b, u⟩ := q
    simp only [Memory.write] at h
    split_ifs at h
    · rcases List.mem_cons.1 h with h | h
      · exact .inl (by rw [h])
      · exact .inr h
    · rcases List.mem_cons.1 h with h | h
      · exact .inl (by rw [h])
      · exact .inr (List.mem_cons_of_mem _ h)
    · rcases List.mem_cons.1 h with h | h
      · exact .inr (h ▸ List.mem_cons_self)
      · exact (ih h).imp_right (List.mem_cons_of_mem _)

/-- A write keeps the canonical form. -/
theorem Memory.wf_write {m : Memory w} (h : m.wf) (a : Nat) (v : BitVec w) : Memory.wf (Memory.write m a v) := by
  induction m with
  | nil => simp [Memory.write, Memory.wf]
  | cons p m ih =>
    obtain ⟨b, u⟩ := p
    obtain ⟨hb, hm⟩ := List.pairwise_cons.1 h
    simp only [Memory.write]
    split_ifs with h1 h2
    · exact List.pairwise_cons.2 ⟨fun q hq => by
        rcases List.mem_cons.1 hq with rfl | hq
        · exact h1
        · exact lt_trans h1 (hb q hq), h⟩
    · subst h2; exact List.pairwise_cons.2 ⟨hb, hm⟩
    · refine List.pairwise_cons.2 ⟨fun q hq => ?_, ih hm⟩
      rcases Memory.mem_write hq with hq | hq
      · show b < q.1
        omega
      · exact hb q hq

theorem Memory.wf_nil : Memory.wf ([] : Memory w) := List.Pairwise.nil

/-- `filled` says what it is for: every element below `n` was written. -/
theorem Memory.filled_iff (m : Memory w) (n : Nat) :
    Memory.filled m n = true ↔ ∀ i, i < n → Memory.written m i = true := by
  induction n with
  | zero => simp [Memory.filled]
  | succ n ih =>
    simp only [Memory.filled, Bool.and_eq_true, ih]
    constructor
    · rintro ⟨h, hn⟩ i hi
      rcases Nat.lt_succ_iff_lt_or_eq.1 hi with hi | rfl
      · exact hn i hi
      · exact h
    · intro h
      exact ⟨h n (Nat.lt_succ_self n), fun i hi => h i (Nat.lt_succ_of_lt hi)⟩

/-- The grid is complete exactly when every word was written (41_frame_builder R131). -/
theorem gridComplete_iff (s : State) :
    gridComplete s = true ↔ ∀ i, i < s.cfg.cells → s.grid.written i = true := Memory.filled_iff _ _

theorem Memory.written_iff (m : Memory w) (a : Nat) :
    Memory.written m a = true ↔ ∃ v, Memory.read m a = some v := Option.isSome_iff_exists

/-- The snapshot of a written word is that word (41_frame_builder R131). -/
theorem gridWord_of_read {s : State} {i : Nat} {v : CellWord} (h : s.grid.read i = some v) : gridWord s i = v := by
  simp [gridWord, h]

end Sys2Proof.Machine
end

