-- ==== Sys2Proof/Laws/Raster.lean ====
section
/-! SUPPORT. The laws of the pixel loop (40_glyph_rasterizer R110, R112): what each address holds after it, and the
induction over its writes. -/

namespace Sys2Proof.Machine

/-- A pixel of the rasterizer is a palette index (40_glyph_rasterizer R103, 20_memory R55). -/
theorem pixelOf_lt (c : Config) (cell : CellWord) (sup : Bool) (x y : Nat) :
    (pixelOf c cell sup x y).toNat < 16 := by
  have hf := (decodeCell cell).fg.isLt
  have hb := (decodeCell cell).bg.isLt
  unfold pixelOf
  simp only
  split_ifs
  · rw [BitVec.toNat_setWidth]; omega
  · rw [BitVec.toNat_setWidth]; omega

/-- The two writes of the loop body leave the pixel of the pixel function (40_glyph_rasterizer R103, R110). -/
theorem rasterPixel_eq (c : Config) (cell : CellWord) (sup : Bool) (x y a : Nat) (m : Memory 8) :
    rasterPixel c cell sup x y a m = m.write a (pixelOf c cell sup x y) := by
  unfold rasterPixel pixelOf
  simp only
  split_ifs <;> simp_all [Memory.write_write_same]

/-- Induction over the writes of one glyph row. -/
theorem rasterRow_induct {P : Memory 8 → Prop} (c : Config) (base stride : Nat) (cell : CellWord) (sup : Bool) (y : Nat)
    (step : ∀ m x, x < c.cellW → P m → P (m.write (base + y * stride + x) (pixelOf c cell sup x y)))
    (m : Memory 8) (h : P m) : P (rasterRow c base stride cell sup y m) := by
  unfold rasterRow
  refine List.foldlRecOn _ _ h fun m hm x hx => ?_
  rw [rasterPixel_eq]
  exact step m x (List.mem_range.1 hx) hm

/-- Induction over the writes of the pixel loop: a property that every write of the loop keeps holds after it. -/
theorem rasterInto_induct {P : Memory 8 → Prop} (c : Config) (base stride : Nat) (cell : CellWord) (sup : Bool)
    (step : ∀ m x y, x < c.cellW → y < c.cellH → P m →
      P (m.write (base + y * stride + x) (pixelOf c cell sup x y)))
    (m : Memory 8) (h : P m) : P (rasterInto c base stride cell sup m) := by
  unfold rasterInto
  refine List.foldlRecOn _ _ h fun m hm y hy => ?_
  exact rasterRow_induct c base stride cell sup y
    (fun m x hx hm => step m x y hx (List.mem_range.1 hy) hm) m hm

/-- The pixel loop keeps the canonical form. -/
theorem rasterInto_wf (c : Config) (base stride : Nat) (cell : CellWord) (sup : Bool) {m : Memory 8} (h : m.wf) :
    Memory.wf (rasterInto c base stride cell sup m) :=
  rasterInto_induct (P := fun m => m.wf) c base stride cell sup (fun _ _ _ _ _ hm => Memory.wf_write hm _ _) m h

/-- An address outside one glyph row's footprint is unchanged. -/
theorem rasterRow_read_outside {c : Config} {base stride : Nat} {cell : CellWord} {sup : Bool} {y a : Nat}
    (h : ∀ x, x < c.cellW → base + y * stride + x ≠ a) (m : Memory 8) :
    Memory.read (rasterRow c base stride cell sup y m) a = m.read a :=
  rasterRow_induct (P := fun m' => m'.read a = m.read a) c base stride cell sup y
    (fun m' x hx hm => by rw [Memory.read_write_of_ne _ _ (h x hx).symm, hm]) m rfl

/-- An address outside the footprint is unchanged (40_glyph_rasterizer R112). -/
theorem rasterInto_read_outside {c : Config} {base stride : Nat} {cell : CellWord} {sup : Bool} {a : Nat}
    (h : ∀ x y, x < c.cellW → y < c.cellH → base + y * stride + x ≠ a) (m : Memory 8) :
    Memory.read (rasterInto c base stride cell sup m) a = m.read a :=
  rasterInto_induct (P := fun m' => m'.read a = m.read a) c base stride cell sup
    (fun m' x y hx hy hm => by rw [Memory.read_write_of_ne _ _ (h x y hx hy).symm, hm]) m rfl

/-- One glyph row's addresses hold its pixels. -/
theorem rasterRow_read_inside {c : Config} {base stride : Nat} {cell : CellWord} {sup : Bool} {x y : Nat}
    (hx : x < c.cellW) (m : Memory 8) :
    Memory.read (rasterRow c base stride cell sup y m) (base + y * stride + x) = some (pixelOf c cell sup x y) := by
  unfold rasterRow
  generalize c.cellW = n at hx ⊢
  induction n with
  | zero => omega
  | succ n ih =>
    rw [List.range_succ, List.foldl_append, List.foldl_cons, List.foldl_nil, rasterPixel_eq, Memory.read_write]
    split_ifs with he
    · have : x = n := by omega
      rw [this]
    · exact ih (by omega)

/-- A footprint address holds the pixel of the last pair that has that address (40_glyph_rasterizer R112). -/
theorem rasterInto_read_last {c : Config} {base stride : Nat} {cell : CellWord} {sup : Bool} {x y : Nat}
    (hx : x < c.cellW) (hy : y < c.cellH)
    (last : ∀ x' y', x' < c.cellW → y' < c.cellH → y < y' → base + y' * stride + x' ≠ base + y * stride + x)
    (m : Memory 8) :
    Memory.read (rasterInto c base stride cell sup m) (base + y * stride + x) = some (pixelOf c cell sup x y) := by
  unfold rasterInto
  generalize c.cellH = n at hy last ⊢
  induction n with
  | zero => omega
  | succ n ih =>
    rw [List.range_succ, List.foldl_append, List.foldl_cons, List.foldl_nil]
    rcases Nat.lt_succ_iff_lt_or_eq.1 hy with h | rfl
    · rw [rasterRow_read_outside fun x' hx' => last x' n hx' (Nat.lt_succ_self n) h]
      exact ih h fun x' y' hx' hy' => last x' y' hx' (Nat.lt_succ_of_lt hy')
    · exact rasterRow_read_inside hx _

/-- Where the stride is at least W no two pairs share an address (40_glyph_rasterizer R112). -/
theorem rasterInto_read_of_stride {c : Config} {base stride : Nat} {cell : CellWord} {sup : Bool} {x y : Nat}
    (hx : x < c.cellW) (hy : y < c.cellH) (hs : c.cellW ≤ stride) (m : Memory 8) :
    Memory.read (rasterInto c base stride cell sup m) (base + y * stride + x) = some (pixelOf c cell sup x y) := by
  refine rasterInto_read_last hx hy (fun x' y' _ _ h => ?_) m
  have : (y + 1) * stride ≤ y' * stride := Nat.mul_le_mul_right _ h
  rw [Nat.add_mul] at this
  omega

end Sys2Proof.Machine
end

