-- ==== Sys2Proof/Laws/State.lean ====
section
/-! SUPPORT. The state record: for each shared operation, what it does to each field. No later proof unfolds a record
update. -/

namespace Sys2Proof.Machine

/-! ### `emit Present(sel)` (42_blink_scheduler R161) -/

@[simp] theorem State.emitPresent_cfg (sel : Phase) (s : State) : (State.emitPresent sel s).cfg = s.cfg := rfl
@[simp] theorem State.emitPresent_cell (sel : Phase) (s : State) : (State.emitPresent sel s).cell = s.cell := rfl
@[simp] theorem State.emitPresent_dstBase (sel : Phase) (s : State) : (State.emitPresent sel s).dstBase = s.dstBase := rfl
@[simp] theorem State.emitPresent_dstStride (sel : Phase) (s : State) : (State.emitPresent sel s).dstStride = s.dstStride := rfl
@[simp] theorem State.emitPresent_now (sel : Phase) (s : State) : (State.emitPresent sel s).now = s.now := rfl
@[simp] theorem State.emitPresent_framesValid (sel : Phase) (s : State) : (State.emitPresent sel s).framesValid = s.framesValid := rfl
@[simp] theorem State.emitPresent_armed (sel : Phase) (s : State) : (State.emitPresent sel s).armed = s.armed := rfl
@[simp] theorem State.emitPresent_phase (sel : Phase) (s : State) : (State.emitPresent sel s).phase = s.phase := rfl
@[simp] theorem State.emitPresent_pend (sel : Phase) (s : State) : (State.emitPresent sel s).pend = true := rfl
@[simp] theorem State.emitPresent_busy (sel : Phase) (s : State) : (State.emitPresent sel s).busy = s.busy := rfl
@[simp] theorem State.emitPresent_err (sel : Phase) (s : State) : (State.emitPresent sel s).err = s.err := rfl
@[simp] theorem State.emitPresent_errCode (sel : Phase) (s : State) : (State.emitPresent sel s).errCode = s.errCode := rfl
@[simp] theorem State.emitPresent_deadline (sel : Phase) (s : State) : (State.emitPresent sel s).deadline = s.deadline := rfl
@[simp] theorem State.emitPresent_errCmd (sel : Phase) (s : State) : (State.emitPresent sel s).errCmd = s.errCmd := rfl
@[simp] theorem State.emitPresent_grid (sel : Phase) (s : State) : (State.emitPresent sel s).grid = s.grid := rfl
@[simp] theorem State.emitPresent_pix (sel : Phase) (s : State) : (State.emitPresent sel s).pix = s.pix := rfl
@[simp] theorem State.emitPresent_presents (sel : Phase) (s : State) : (State.emitPresent sel s).presents = s.presents ++ [sel] := rfl
@[simp] theorem State.emitPresent_faultMark (sel : Phase) (s : State) : (State.emitPresent sel s).faultMark = s.faultMark := rfl
@[simp] theorem State.emitPresent_refusalMark (sel : Phase) (s : State) : (State.emitPresent sel s).refusalMark = s.refusalMark := rfl
@[simp] theorem State.emitPresent_responses (sel : Phase) (s : State) : (State.emitPresent sel s).responses = s.responses := rfl
@[simp] theorem State.emitPresent_resets (sel : Phase) (s : State) : (State.emitPresent sel s).resets = s.resets := rfl
@[simp] theorem State.emitPresent_pending (sel : Phase) (s : State) : (State.emitPresent sel s).pending = s.pending := rfl

/-! ### A value read (20_memory R59) -/

@[simp] theorem State.respond_cfg (r : Response) (s : State) : (State.respond r s).cfg = s.cfg := rfl
@[simp] theorem State.respond_cell (r : Response) (s : State) : (State.respond r s).cell = s.cell := rfl
@[simp] theorem State.respond_dstBase (r : Response) (s : State) : (State.respond r s).dstBase = s.dstBase := rfl
@[simp] theorem State.respond_dstStride (r : Response) (s : State) : (State.respond r s).dstStride = s.dstStride := rfl
@[simp] theorem State.respond_now (r : Response) (s : State) : (State.respond r s).now = s.now := rfl
@[simp] theorem State.respond_framesValid (r : Response) (s : State) : (State.respond r s).framesValid = s.framesValid := rfl
@[simp] theorem State.respond_armed (r : Response) (s : State) : (State.respond r s).armed = s.armed := rfl
@[simp] theorem State.respond_phase (r : Response) (s : State) : (State.respond r s).phase = s.phase := rfl
@[simp] theorem State.respond_pend (r : Response) (s : State) : (State.respond r s).pend = s.pend := rfl
@[simp] theorem State.respond_busy (r : Response) (s : State) : (State.respond r s).busy = s.busy := rfl
@[simp] theorem State.respond_err (r : Response) (s : State) : (State.respond r s).err = s.err := rfl
@[simp] theorem State.respond_errCode (r : Response) (s : State) : (State.respond r s).errCode = s.errCode := rfl
@[simp] theorem State.respond_deadline (r : Response) (s : State) : (State.respond r s).deadline = s.deadline := rfl
@[simp] theorem State.respond_errCmd (r : Response) (s : State) : (State.respond r s).errCmd = s.errCmd := rfl
@[simp] theorem State.respond_grid (r : Response) (s : State) : (State.respond r s).grid = s.grid := rfl
@[simp] theorem State.respond_pix (r : Response) (s : State) : (State.respond r s).pix = s.pix := rfl
@[simp] theorem State.respond_presents (r : Response) (s : State) : (State.respond r s).presents = s.presents := rfl
@[simp] theorem State.respond_faultMark (r : Response) (s : State) : (State.respond r s).faultMark = s.faultMark := rfl
@[simp] theorem State.respond_refusalMark (r : Response) (s : State) : (State.respond r s).refusalMark = s.refusalMark := rfl
@[simp] theorem State.respond_responses (r : Response) (s : State) : (State.respond r s).responses = s.responses ++ [r] := rfl
@[simp] theorem State.respond_resets (r : Response) (s : State) : (State.respond r s).resets = s.resets := rfl
@[simp] theorem State.respond_pending (r : Response) (s : State) : (State.respond r s).pending = s.pending := rfl

/-! ### A read of unwritten data (10_state R44) -/

@[simp] theorem State.respondUnwritten_cfg (r : Response) (s : State) : (State.respondUnwritten r s).cfg = s.cfg := rfl
@[simp] theorem State.respondUnwritten_cell (r : Response) (s : State) : (State.respondUnwritten r s).cell = s.cell := rfl
@[simp] theorem State.respondUnwritten_dstBase (r : Response) (s : State) : (State.respondUnwritten r s).dstBase = s.dstBase := rfl
@[simp] theorem State.respondUnwritten_dstStride (r : Response) (s : State) : (State.respondUnwritten r s).dstStride = s.dstStride := rfl
@[simp] theorem State.respondUnwritten_now (r : Response) (s : State) : (State.respondUnwritten r s).now = s.now := rfl
@[simp] theorem State.respondUnwritten_framesValid (r : Response) (s : State) : (State.respondUnwritten r s).framesValid = s.framesValid := rfl
@[simp] theorem State.respondUnwritten_armed (r : Response) (s : State) : (State.respondUnwritten r s).armed = s.armed := rfl
@[simp] theorem State.respondUnwritten_phase (r : Response) (s : State) : (State.respondUnwritten r s).phase = s.phase := rfl
@[simp] theorem State.respondUnwritten_pend (r : Response) (s : State) : (State.respondUnwritten r s).pend = s.pend := rfl
@[simp] theorem State.respondUnwritten_busy (r : Response) (s : State) : (State.respondUnwritten r s).busy = s.busy := rfl
@[simp] theorem State.respondUnwritten_err (r : Response) (s : State) : (State.respondUnwritten r s).err = s.err := rfl
@[simp] theorem State.respondUnwritten_errCode (r : Response) (s : State) : (State.respondUnwritten r s).errCode = s.errCode := rfl
@[simp] theorem State.respondUnwritten_deadline (r : Response) (s : State) : (State.respondUnwritten r s).deadline = s.deadline := rfl
@[simp] theorem State.respondUnwritten_errCmd (r : Response) (s : State) : (State.respondUnwritten r s).errCmd = s.errCmd := rfl
@[simp] theorem State.respondUnwritten_grid (r : Response) (s : State) : (State.respondUnwritten r s).grid = s.grid := rfl
@[simp] theorem State.respondUnwritten_pix (r : Response) (s : State) : (State.respondUnwritten r s).pix = s.pix := rfl
@[simp] theorem State.respondUnwritten_presents (r : Response) (s : State) : (State.respondUnwritten r s).presents = s.presents := rfl
@[simp] theorem State.respondUnwritten_faultMark (r : Response) (s : State) : (State.respondUnwritten r s).faultMark = true := rfl
@[simp] theorem State.respondUnwritten_refusalMark (r : Response) (s : State) : (State.respondUnwritten r s).refusalMark = s.refusalMark := rfl
@[simp] theorem State.respondUnwritten_responses (r : Response) (s : State) : (State.respondUnwritten r s).responses = s.responses ++ [r] := rfl
@[simp] theorem State.respondUnwritten_resets (r : Response) (s : State) : (State.respondUnwritten r s).resets = s.resets := rfl
@[simp] theorem State.respondUnwritten_pending (r : Response) (s : State) : (State.respondUnwritten r s).pending = s.pending := rfl

/-! ### The fault mark (10_state R44) -/

@[simp] theorem State.markFault_cfg (s : State) : (s.markFault).cfg = s.cfg := rfl
@[simp] theorem State.markFault_cell (s : State) : (s.markFault).cell = s.cell := rfl
@[simp] theorem State.markFault_dstBase (s : State) : (s.markFault).dstBase = s.dstBase := rfl
@[simp] theorem State.markFault_dstStride (s : State) : (s.markFault).dstStride = s.dstStride := rfl
@[simp] theorem State.markFault_now (s : State) : (s.markFault).now = s.now := rfl
@[simp] theorem State.markFault_framesValid (s : State) : (s.markFault).framesValid = s.framesValid := rfl
@[simp] theorem State.markFault_armed (s : State) : (s.markFault).armed = s.armed := rfl
@[simp] theorem State.markFault_phase (s : State) : (s.markFault).phase = s.phase := rfl
@[simp] theorem State.markFault_pend (s : State) : (s.markFault).pend = s.pend := rfl
@[simp] theorem State.markFault_busy (s : State) : (s.markFault).busy = s.busy := rfl
@[simp] theorem State.markFault_err (s : State) : (s.markFault).err = s.err := rfl
@[simp] theorem State.markFault_errCode (s : State) : (s.markFault).errCode = s.errCode := rfl
@[simp] theorem State.markFault_deadline (s : State) : (s.markFault).deadline = s.deadline := rfl
@[simp] theorem State.markFault_errCmd (s : State) : (s.markFault).errCmd = s.errCmd := rfl
@[simp] theorem State.markFault_grid (s : State) : (s.markFault).grid = s.grid := rfl
@[simp] theorem State.markFault_pix (s : State) : (s.markFault).pix = s.pix := rfl
@[simp] theorem State.markFault_presents (s : State) : (s.markFault).presents = s.presents := rfl
@[simp] theorem State.markFault_faultMark (s : State) : (s.markFault).faultMark = true := rfl
@[simp] theorem State.markFault_refusalMark (s : State) : (s.markFault).refusalMark = s.refusalMark := rfl
@[simp] theorem State.markFault_responses (s : State) : (s.markFault).responses = s.responses := rfl
@[simp] theorem State.markFault_resets (s : State) : (s.markFault).resets = s.resets := rfl
@[simp] theorem State.markFault_pending (s : State) : (s.markFault).pending = s.pending := rfl

/-! ### The refusal mark (10_state R44) -/

@[simp] theorem State.markRefusal_cfg (s : State) : (s.markRefusal).cfg = s.cfg := rfl
@[simp] theorem State.markRefusal_cell (s : State) : (s.markRefusal).cell = s.cell := rfl
@[simp] theorem State.markRefusal_dstBase (s : State) : (s.markRefusal).dstBase = s.dstBase := rfl
@[simp] theorem State.markRefusal_dstStride (s : State) : (s.markRefusal).dstStride = s.dstStride := rfl
@[simp] theorem State.markRefusal_now (s : State) : (s.markRefusal).now = s.now := rfl
@[simp] theorem State.markRefusal_framesValid (s : State) : (s.markRefusal).framesValid = s.framesValid := rfl
@[simp] theorem State.markRefusal_armed (s : State) : (s.markRefusal).armed = s.armed := rfl
@[simp] theorem State.markRefusal_phase (s : State) : (s.markRefusal).phase = s.phase := rfl
@[simp] theorem State.markRefusal_pend (s : State) : (s.markRefusal).pend = s.pend := rfl
@[simp] theorem State.markRefusal_busy (s : State) : (s.markRefusal).busy = s.busy := rfl
@[simp] theorem State.markRefusal_err (s : State) : (s.markRefusal).err = s.err := rfl
@[simp] theorem State.markRefusal_errCode (s : State) : (s.markRefusal).errCode = s.errCode := rfl
@[simp] theorem State.markRefusal_deadline (s : State) : (s.markRefusal).deadline = s.deadline := rfl
@[simp] theorem State.markRefusal_errCmd (s : State) : (s.markRefusal).errCmd = s.errCmd := rfl
@[simp] theorem State.markRefusal_grid (s : State) : (s.markRefusal).grid = s.grid := rfl
@[simp] theorem State.markRefusal_pix (s : State) : (s.markRefusal).pix = s.pix := rfl
@[simp] theorem State.markRefusal_presents (s : State) : (s.markRefusal).presents = s.presents := rfl
@[simp] theorem State.markRefusal_faultMark (s : State) : (s.markRefusal).faultMark = s.faultMark := rfl
@[simp] theorem State.markRefusal_refusalMark (s : State) : (s.markRefusal).refusalMark = true := rfl
@[simp] theorem State.markRefusal_responses (s : State) : (s.markRefusal).responses = s.responses := rfl
@[simp] theorem State.markRefusal_resets (s : State) : (s.markRefusal).resets = s.resets := rfl
@[simp] theorem State.markRefusal_pending (s : State) : (s.markRefusal).pending = s.pending := rfl

/-! ### Error entry (60_exceptions R213) -/

@[simp] theorem State.raiseError_cfg (code : ErrCode) (w : Word) (s : State) : (State.raiseError code w s).cfg = s.cfg := rfl
@[simp] theorem State.raiseError_cell (code : ErrCode) (w : Word) (s : State) : (State.raiseError code w s).cell = s.cell := rfl
@[simp] theorem State.raiseError_dstBase (code : ErrCode) (w : Word) (s : State) : (State.raiseError code w s).dstBase = s.dstBase := rfl
@[simp] theorem State.raiseError_dstStride (code : ErrCode) (w : Word) (s : State) : (State.raiseError code w s).dstStride = s.dstStride := rfl
@[simp] theorem State.raiseError_now (code : ErrCode) (w : Word) (s : State) : (State.raiseError code w s).now = s.now := rfl
@[simp] theorem State.raiseError_framesValid (code : ErrCode) (w : Word) (s : State) : (State.raiseError code w s).framesValid = s.framesValid := rfl
@[simp] theorem State.raiseError_armed (code : ErrCode) (w : Word) (s : State) : (State.raiseError code w s).armed = s.armed := rfl
@[simp] theorem State.raiseError_phase (code : ErrCode) (w : Word) (s : State) : (State.raiseError code w s).phase = s.phase := rfl
@[simp] theorem State.raiseError_pend (code : ErrCode) (w : Word) (s : State) : (State.raiseError code w s).pend = s.pend := rfl
@[simp] theorem State.raiseError_busy (code : ErrCode) (w : Word) (s : State) : (State.raiseError code w s).busy = s.busy := rfl
@[simp] theorem State.raiseError_err (code : ErrCode) (w : Word) (s : State) : (State.raiseError code w s).err = true := rfl
@[simp] theorem State.raiseError_errCode (code : ErrCode) (w : Word) (s : State) : (State.raiseError code w s).errCode = (if s.err then s.errCode else code) := rfl
@[simp] theorem State.raiseError_deadline (code : ErrCode) (w : Word) (s : State) : (State.raiseError code w s).deadline = s.deadline := rfl
@[simp] theorem State.raiseError_errCmd (code : ErrCode) (w : Word) (s : State) : (State.raiseError code w s).errCmd = (if s.err then s.errCmd else w) := rfl
@[simp] theorem State.raiseError_grid (code : ErrCode) (w : Word) (s : State) : (State.raiseError code w s).grid = s.grid := rfl
@[simp] theorem State.raiseError_pix (code : ErrCode) (w : Word) (s : State) : (State.raiseError code w s).pix = s.pix := rfl
@[simp] theorem State.raiseError_presents (code : ErrCode) (w : Word) (s : State) : (State.raiseError code w s).presents = s.presents := rfl
@[simp] theorem State.raiseError_faultMark (code : ErrCode) (w : Word) (s : State) : (State.raiseError code w s).faultMark = true := rfl
@[simp] theorem State.raiseError_refusalMark (code : ErrCode) (w : Word) (s : State) : (State.raiseError code w s).refusalMark = s.refusalMark := rfl
@[simp] theorem State.raiseError_responses (code : ErrCode) (w : Word) (s : State) : (State.raiseError code w s).responses = s.responses := rfl
@[simp] theorem State.raiseError_resets (code : ErrCode) (w : Word) (s : State) : (State.raiseError code w s).resets = s.resets := rfl
@[simp] theorem State.raiseError_pending (code : ErrCode) (w : Word) (s : State) : (State.raiseError code w s).pending = s.pending := rfl

/-! ### The reset input (70_reset_and_hazards R240) -/

@[simp] theorem State.applyReset_cfg (s : State) : (s.applyReset).cfg = s.cfg := rfl
@[simp] theorem State.applyReset_cell (s : State) : (s.applyReset).cell = 0#16 := rfl
@[simp] theorem State.applyReset_dstBase (s : State) : (s.applyReset).dstBase = 0#32 := rfl
@[simp] theorem State.applyReset_dstStride (s : State) : (s.applyReset).dstStride = 0#32 := rfl
@[simp] theorem State.applyReset_now (s : State) : (s.applyReset).now = 0#32 := rfl
@[simp] theorem State.applyReset_framesValid (s : State) : (s.applyReset).framesValid = false := rfl
@[simp] theorem State.applyReset_armed (s : State) : (s.applyReset).armed = false := rfl
@[simp] theorem State.applyReset_phase (s : State) : (s.applyReset).phase = .visible := rfl
@[simp] theorem State.applyReset_pend (s : State) : (s.applyReset).pend = false := rfl
@[simp] theorem State.applyReset_busy (s : State) : (s.applyReset).busy = false := rfl
@[simp] theorem State.applyReset_err (s : State) : (s.applyReset).err = false := rfl
@[simp] theorem State.applyReset_errCode (s : State) : (s.applyReset).errCode = .none := rfl
@[simp] theorem State.applyReset_deadline (s : State) : (s.applyReset).deadline = 0#32 := rfl
@[simp] theorem State.applyReset_errCmd (s : State) : (s.applyReset).errCmd = 0#32 := rfl
@[simp] theorem State.applyReset_grid (s : State) : (s.applyReset).grid = s.grid := rfl
@[simp] theorem State.applyReset_pix (s : State) : (s.applyReset).pix = [] := rfl
@[simp] theorem State.applyReset_presents (s : State) : (s.applyReset).presents = s.presents := rfl
@[simp] theorem State.applyReset_faultMark (s : State) : (s.applyReset).faultMark = s.faultMark := rfl
@[simp] theorem State.applyReset_refusalMark (s : State) : (s.applyReset).refusalMark = s.refusalMark := rfl
@[simp] theorem State.applyReset_responses (s : State) : (s.applyReset).responses = s.responses := rfl
@[simp] theorem State.applyReset_resets (s : State) : (s.applyReset).resets = s.resets + 1 := rfl
@[simp] theorem State.applyReset_pending (s : State) : (s.applyReset).pending = s.pending := rfl

/-! ### Consuming a host input -/

@[simp] theorem State.dequeue_cfg (s : State) : (s.dequeue).cfg = s.cfg := rfl
@[simp] theorem State.dequeue_cell (s : State) : (s.dequeue).cell = s.cell := rfl
@[simp] theorem State.dequeue_dstBase (s : State) : (s.dequeue).dstBase = s.dstBase := rfl
@[simp] theorem State.dequeue_dstStride (s : State) : (s.dequeue).dstStride = s.dstStride := rfl
@[simp] theorem State.dequeue_now (s : State) : (s.dequeue).now = s.now := rfl
@[simp] theorem State.dequeue_framesValid (s : State) : (s.dequeue).framesValid = s.framesValid := rfl
@[simp] theorem State.dequeue_armed (s : State) : (s.dequeue).armed = s.armed := rfl
@[simp] theorem State.dequeue_phase (s : State) : (s.dequeue).phase = s.phase := rfl
@[simp] theorem State.dequeue_pend (s : State) : (s.dequeue).pend = s.pend := rfl
@[simp] theorem State.dequeue_busy (s : State) : (s.dequeue).busy = s.busy := rfl
@[simp] theorem State.dequeue_err (s : State) : (s.dequeue).err = s.err := rfl
@[simp] theorem State.dequeue_errCode (s : State) : (s.dequeue).errCode = s.errCode := rfl
@[simp] theorem State.dequeue_deadline (s : State) : (s.dequeue).deadline = s.deadline := rfl
@[simp] theorem State.dequeue_errCmd (s : State) : (s.dequeue).errCmd = s.errCmd := rfl
@[simp] theorem State.dequeue_grid (s : State) : (s.dequeue).grid = s.grid := rfl
@[simp] theorem State.dequeue_pix (s : State) : (s.dequeue).pix = s.pix := rfl
@[simp] theorem State.dequeue_presents (s : State) : (s.dequeue).presents = s.presents := rfl
@[simp] theorem State.dequeue_faultMark (s : State) : (s.dequeue).faultMark = s.faultMark := rfl
@[simp] theorem State.dequeue_refusalMark (s : State) : (s.dequeue).refusalMark = s.refusalMark := rfl
@[simp] theorem State.dequeue_responses (s : State) : (s.dequeue).responses = s.responses := rfl
@[simp] theorem State.dequeue_resets (s : State) : (s.dequeue).resets = s.resets := rfl
@[simp] theorem State.dequeue_pending (s : State) : (s.dequeue).pending = s.pending.tail := rfl

/-! ### Placing a host input -/

@[simp] theorem State.placeInput_cfg (h : HostInput) (s : State) : (State.placeInput h s).cfg = s.cfg := rfl
@[simp] theorem State.placeInput_cell (h : HostInput) (s : State) : (State.placeInput h s).cell = s.cell := rfl
@[simp] theorem State.placeInput_dstBase (h : HostInput) (s : State) : (State.placeInput h s).dstBase = s.dstBase := rfl
@[simp] theorem State.placeInput_dstStride (h : HostInput) (s : State) : (State.placeInput h s).dstStride = s.dstStride := rfl
@[simp] theorem State.placeInput_now (h : HostInput) (s : State) : (State.placeInput h s).now = s.now := rfl
@[simp] theorem State.placeInput_framesValid (h : HostInput) (s : State) : (State.placeInput h s).framesValid = s.framesValid := rfl
@[simp] theorem State.placeInput_armed (h : HostInput) (s : State) : (State.placeInput h s).armed = s.armed := rfl
@[simp] theorem State.placeInput_phase (h : HostInput) (s : State) : (State.placeInput h s).phase = s.phase := rfl
@[simp] theorem State.placeInput_pend (h : HostInput) (s : State) : (State.placeInput h s).pend = s.pend := rfl
@[simp] theorem State.placeInput_busy (h : HostInput) (s : State) : (State.placeInput h s).busy = s.busy := rfl
@[simp] theorem State.placeInput_err (h : HostInput) (s : State) : (State.placeInput h s).err = s.err := rfl
@[simp] theorem State.placeInput_errCode (h : HostInput) (s : State) : (State.placeInput h s).errCode = s.errCode := rfl
@[simp] theorem State.placeInput_deadline (h : HostInput) (s : State) : (State.placeInput h s).deadline = s.deadline := rfl
@[simp] theorem State.placeInput_errCmd (h : HostInput) (s : State) : (State.placeInput h s).errCmd = s.errCmd := rfl
@[simp] theorem State.placeInput_grid (h : HostInput) (s : State) : (State.placeInput h s).grid = s.grid := rfl
@[simp] theorem State.placeInput_pix (h : HostInput) (s : State) : (State.placeInput h s).pix = s.pix := rfl
@[simp] theorem State.placeInput_presents (h : HostInput) (s : State) : (State.placeInput h s).presents = s.presents := rfl
@[simp] theorem State.placeInput_faultMark (h : HostInput) (s : State) : (State.placeInput h s).faultMark = s.faultMark := rfl
@[simp] theorem State.placeInput_refusalMark (h : HostInput) (s : State) : (State.placeInput h s).refusalMark = s.refusalMark := rfl
@[simp] theorem State.placeInput_responses (h : HostInput) (s : State) : (State.placeInput h s).responses = s.responses := rfl
@[simp] theorem State.placeInput_resets (h : HostInput) (s : State) : (State.placeInput h s).resets = s.resets := rfl
@[simp] theorem State.placeInput_pending (h : HostInput) (s : State) : (State.placeInput h s).pending = h :: s.pending := rfl

/-! ### One flip (42_blink_scheduler R155) -/

@[simp] theorem State.flip_cfg (s : State) : (s.flip).cfg = s.cfg := rfl
@[simp] theorem State.flip_cell (s : State) : (s.flip).cell = s.cell := rfl
@[simp] theorem State.flip_dstBase (s : State) : (s.flip).dstBase = s.dstBase := rfl
@[simp] theorem State.flip_dstStride (s : State) : (s.flip).dstStride = s.dstStride := rfl
@[simp] theorem State.flip_now (s : State) : (s.flip).now = s.now := rfl
@[simp] theorem State.flip_framesValid (s : State) : (s.flip).framesValid = s.framesValid := rfl
@[simp] theorem State.flip_armed (s : State) : (s.flip).armed = s.armed := rfl
@[simp] theorem State.flip_phase (s : State) : (s.flip).phase = s.phase.flip := rfl
@[simp] theorem State.flip_pend (s : State) : (s.flip).pend = s.pend := rfl
@[simp] theorem State.flip_busy (s : State) : (s.flip).busy = s.busy := rfl
@[simp] theorem State.flip_err (s : State) : (s.flip).err = s.err := rfl
@[simp] theorem State.flip_errCode (s : State) : (s.flip).errCode = s.errCode := rfl
@[simp] theorem State.flip_deadline (s : State) : (s.flip).deadline = BitVec.ofNat 32 (s.deadline.toNat + s.cfg.period) := rfl
@[simp] theorem State.flip_errCmd (s : State) : (s.flip).errCmd = s.errCmd := rfl
@[simp] theorem State.flip_grid (s : State) : (s.flip).grid = s.grid := rfl
@[simp] theorem State.flip_pix (s : State) : (s.flip).pix = s.pix := rfl
@[simp] theorem State.flip_presents (s : State) : (s.flip).presents = s.presents := rfl
@[simp] theorem State.flip_faultMark (s : State) : (s.flip).faultMark = s.faultMark := rfl
@[simp] theorem State.flip_refusalMark (s : State) : (s.flip).refusalMark = s.refusalMark := rfl
@[simp] theorem State.flip_responses (s : State) : (s.flip).responses = s.responses := rfl
@[simp] theorem State.flip_resets (s : State) : (s.flip).resets = s.resets := rfl
@[simp] theorem State.flip_pending (s : State) : (s.flip).pending = s.pending := rfl

/-! ### Publish (41_frame_builder R134) -/

@[simp] theorem State.publish_cfg (s : State) : (s.publish).cfg = s.cfg := rfl
@[simp] theorem State.publish_cell (s : State) : (s.publish).cell = s.cell := rfl
@[simp] theorem State.publish_dstBase (s : State) : (s.publish).dstBase = s.dstBase := rfl
@[simp] theorem State.publish_dstStride (s : State) : (s.publish).dstStride = s.dstStride := rfl
@[simp] theorem State.publish_now (s : State) : (s.publish).now = s.now := rfl
@[simp] theorem State.publish_framesValid (s : State) : (s.publish).framesValid = true := rfl
@[simp] theorem State.publish_armed (s : State) : (s.publish).armed = s.armed := rfl
@[simp] theorem State.publish_phase (s : State) : (s.publish).phase = s.phase := rfl
@[simp] theorem State.publish_pend (s : State) : (s.publish).pend = true := rfl
@[simp] theorem State.publish_busy (s : State) : (s.publish).busy = s.busy := rfl
@[simp] theorem State.publish_err (s : State) : (s.publish).err = s.err := rfl
@[simp] theorem State.publish_errCode (s : State) : (s.publish).errCode = s.errCode := rfl
@[simp] theorem State.publish_deadline (s : State) : (s.publish).deadline = s.deadline := rfl
@[simp] theorem State.publish_errCmd (s : State) : (s.publish).errCmd = s.errCmd := rfl
@[simp] theorem State.publish_grid (s : State) : (s.publish).grid = s.grid := rfl
@[simp] theorem State.publish_pix (s : State) : (s.publish).pix = s.pix := rfl
@[simp] theorem State.publish_presents (s : State) : (s.publish).presents = s.presents ++ [s.phase] := rfl
@[simp] theorem State.publish_faultMark (s : State) : (s.publish).faultMark = s.faultMark := rfl
@[simp] theorem State.publish_refusalMark (s : State) : (s.publish).refusalMark = s.refusalMark := rfl
@[simp] theorem State.publish_responses (s : State) : (s.publish).responses = s.responses := rfl
@[simp] theorem State.publish_resets (s : State) : (s.publish).resets = s.resets := rfl
@[simp] theorem State.publish_pending (s : State) : (s.publish).pending = s.pending := rfl

/-! ### The presentation request of a flip (42_blink_scheduler R155, R162) -/

@[simp] theorem State.requestIfValid_cfg (s : State) : (s.requestIfValid).cfg = s.cfg := by
  unfold State.requestIfValid; split <;> rfl
@[simp] theorem State.requestIfValid_cell (s : State) : (s.requestIfValid).cell = s.cell := by
  unfold State.requestIfValid; split <;> rfl
@[simp] theorem State.requestIfValid_dstBase (s : State) : (s.requestIfValid).dstBase = s.dstBase := by
  unfold State.requestIfValid; split <;> rfl
@[simp] theorem State.requestIfValid_dstStride (s : State) : (s.requestIfValid).dstStride = s.dstStride := by
  unfold State.requestIfValid; split <;> rfl
@[simp] theorem State.requestIfValid_now (s : State) : (s.requestIfValid).now = s.now := by
  unfold State.requestIfValid; split <;> rfl
@[simp] theorem State.requestIfValid_framesValid (s : State) : (s.requestIfValid).framesValid = s.framesValid := by
  unfold State.requestIfValid; split <;> rfl
@[simp] theorem State.requestIfValid_armed (s : State) : (s.requestIfValid).armed = s.armed := by
  unfold State.requestIfValid; split <;> rfl
@[simp] theorem State.requestIfValid_phase (s : State) : (s.requestIfValid).phase = s.phase := by
  unfold State.requestIfValid; split <;> rfl
@[simp] theorem State.requestIfValid_pend (s : State) : (s.requestIfValid).pend = (s.framesValid || s.pend) := by
  cases h : s.framesValid <;> simp [State.requestIfValid, State.emitPresent, h]
@[simp] theorem State.requestIfValid_busy (s : State) : (s.requestIfValid).busy = s.busy := by
  unfold State.requestIfValid; split <;> rfl
@[simp] theorem State.requestIfValid_err (s : State) : (s.requestIfValid).err = s.err := by
  unfold State.requestIfValid; split <;> rfl
@[simp] theorem State.requestIfValid_errCode (s : State) : (s.requestIfValid).errCode = s.errCode := by
  unfold State.requestIfValid; split <;> rfl
@[simp] theorem State.requestIfValid_deadline (s : State) : (s.requestIfValid).deadline = s.deadline := by
  unfold State.requestIfValid; split <;> rfl
@[simp] theorem State.requestIfValid_errCmd (s : State) : (s.requestIfValid).errCmd = s.errCmd := by
  unfold State.requestIfValid; split <;> rfl
@[simp] theorem State.requestIfValid_grid (s : State) : (s.requestIfValid).grid = s.grid := by
  unfold State.requestIfValid; split <;> rfl
@[simp] theorem State.requestIfValid_pix (s : State) : (s.requestIfValid).pix = s.pix := by
  unfold State.requestIfValid; split <;> rfl
@[simp] theorem State.requestIfValid_presents (s : State) : (s.requestIfValid).presents = (if s.framesValid then s.presents ++ [s.phase] else s.presents) := by
  cases h : s.framesValid <;> simp [State.requestIfValid, State.emitPresent, h]
@[simp] theorem State.requestIfValid_faultMark (s : State) : (s.requestIfValid).faultMark = s.faultMark := by
  unfold State.requestIfValid; split <;> rfl
@[simp] theorem State.requestIfValid_refusalMark (s : State) : (s.requestIfValid).refusalMark = s.refusalMark := by
  unfold State.requestIfValid; split <;> rfl
@[simp] theorem State.requestIfValid_responses (s : State) : (s.requestIfValid).responses = s.responses := by
  unfold State.requestIfValid; split <;> rfl
@[simp] theorem State.requestIfValid_resets (s : State) : (s.requestIfValid).resets = s.resets := by
  unfold State.requestIfValid; split <;> rfl
@[simp] theorem State.requestIfValid_pending (s : State) : (s.requestIfValid).pending = s.pending := by
  unfold State.requestIfValid; split <;> rfl

/-! ### A store into a register (43_host_interface R182) -/

@[simp] theorem State.storeReg_cfg (r : Reg) (data : Word) (s : State) : (State.storeReg r data s).cfg = s.cfg := by
  cases r <;> rfl
@[simp] theorem State.storeReg_cell (r : Reg) (data : Word) (s : State) : (State.storeReg r data s).cell = (if r = .cell then data.extractLsb' 0 16 else s.cell) := by
  cases r <;> rfl
@[simp] theorem State.storeReg_dstBase (r : Reg) (data : Word) (s : State) : (State.storeReg r data s).dstBase = (if r = .dstBase then data else s.dstBase) := by
  cases r <;> rfl
@[simp] theorem State.storeReg_dstStride (r : Reg) (data : Word) (s : State) : (State.storeReg r data s).dstStride = (if r = .dstStride then data else s.dstStride) := by
  cases r <;> rfl
@[simp] theorem State.storeReg_now (r : Reg) (data : Word) (s : State) : (State.storeReg r data s).now = (if r = .now then data else s.now) := by
  cases r <;> rfl
@[simp] theorem State.storeReg_framesValid (r : Reg) (data : Word) (s : State) : (State.storeReg r data s).framesValid = s.framesValid := by
  cases r <;> rfl
@[simp] theorem State.storeReg_armed (r : Reg) (data : Word) (s : State) : (State.storeReg r data s).armed = s.armed := by
  cases r <;> rfl
@[simp] theorem State.storeReg_phase (r : Reg) (data : Word) (s : State) : (State.storeReg r data s).phase = s.phase := by
  cases r <;> rfl
@[simp] theorem State.storeReg_pend (r : Reg) (data : Word) (s : State) : (State.storeReg r data s).pend = s.pend := by
  cases r <;> rfl
@[simp] theorem State.storeReg_busy (r : Reg) (data : Word) (s : State) : (State.storeReg r data s).busy = s.busy := by
  cases r <;> rfl
@[simp] theorem State.storeReg_err (r : Reg) (data : Word) (s : State) : (State.storeReg r data s).err = s.err := by
  cases r <;> rfl
@[simp] theorem State.storeReg_errCode (r : Reg) (data : Word) (s : State) : (State.storeReg r data s).errCode = s.errCode := by
  cases r <;> rfl
@[simp] theorem State.storeReg_deadline (r : Reg) (data : Word) (s : State) : (State.storeReg r data s).deadline = s.deadline := by
  cases r <;> rfl
@[simp] theorem State.storeReg_errCmd (r : Reg) (data : Word) (s : State) : (State.storeReg r data s).errCmd = s.errCmd := by
  cases r <;> rfl
@[simp] theorem State.storeReg_grid (r : Reg) (data : Word) (s : State) : (State.storeReg r data s).grid = s.grid := by
  cases r <;> rfl
@[simp] theorem State.storeReg_pix (r : Reg) (data : Word) (s : State) : (State.storeReg r data s).pix = s.pix := by
  cases r <;> rfl
@[simp] theorem State.storeReg_presents (r : Reg) (data : Word) (s : State) : (State.storeReg r data s).presents = s.presents := by
  cases r <;> rfl
@[simp] theorem State.storeReg_faultMark (r : Reg) (data : Word) (s : State) : (State.storeReg r data s).faultMark = s.faultMark := by
  cases r <;> rfl
@[simp] theorem State.storeReg_refusalMark (r : Reg) (data : Word) (s : State) : (State.storeReg r data s).refusalMark = s.refusalMark := by
  cases r <;> rfl
@[simp] theorem State.storeReg_responses (r : Reg) (data : Word) (s : State) : (State.storeReg r data s).responses = s.responses := by
  cases r <;> rfl
@[simp] theorem State.storeReg_resets (r : Reg) (data : Word) (s : State) : (State.storeReg r data s).resets = s.resets := by
  cases r <;> rfl
@[simp] theorem State.storeReg_pending (r : Reg) (data : Word) (s : State) : (State.storeReg r data s).pending = s.pending := by
  cases r <;> rfl

end Sys2Proof.Machine
end

