-- ==== Sys2Proof/Laws/Exec.lean ====
section
/-! SUPPORT. What an instruction can do, said once: every next state that `exec` answers is one of the effects below. Facts
about all instructions follow by cases on it. -/

namespace Sys2Proof.Machine

/-- The effects of an instruction `i` on a state `s`: the next states `exec i s` can answer. -/
inductive Effect (i : Instr) (s : State) : State → Prop
  /-- NOP, an ignored write, a check that is not due -/
  | unchanged : Effect i s s
  /-- an error of the command word `w` (60_exceptions R213) -/
  | error (code : ErrCode) (w : Word) (hc : code ≠ .none) (hw : encode i = .regWr cmdOffset w) :
      Effect i s (s.raiseError code w)
  /-- a store into a register (43_host_interface R182) -/
  | store (r : Reg) (data : Word) : Effect i s (s.storeReg r data)
  /-- a value read -/
  | read (r : Response) : Effect i s (s.respond r)
  /-- a read of unwritten data (10_state R44) -/
  | readUnwritten (r : Response) : Effect i s (s.respondUnwritten r)
  /-- ACK_PRESENT -/
  | ack : Effect i s { s with pend := false }
  /-- GRID_WR in range -/
  | gridWrite (idx : Word) (data : CellWord) (hi : i = .gridWr idx data) (h : idx.toNat < s.cfg.cells) :
      Effect i s { s with grid := s.grid.write idx.toNat data }
  /-- RASTER_CELL -/
  | raster (sup : Bool) (hv : s.framesValid = false) (hl : rasterLast s < s.cfg.pixSize) :
      Effect i s { s with pix := rasterInto s.cfg s.rasterBase s.rasterStride s.cell sup s.pix }
  /-- BUILD_FRAMES on an incomplete grid (41_frame_builder R131) -/
  | incomplete (hv : s.framesValid = false) (hg : gridComplete s = false) : Effect i s s.markFault
  /-- BUILD_FRAMES -/
  | build (hv : s.framesValid = false) (hg : gridComplete s = true) :
      Effect i s { s with pix := buildImages s.cfg (gridWord s) s.pix }.publish
  /-- BLINK_START -/
  | start (hw : encode i = .regWr cmdOffset (Command.word .blinkStart)) (ha : s.armed = false)
      (ht : s.time + s.cfg.period ≤ timeMax) :
      Effect i s { s with phase := .visible, deadline := BitVec.ofNat 32 (s.time + s.cfg.period), armed := true }
  /-- a flip of BLINK_CHECK -/
  | flip (hw : encode i = .regWr cmdOffset (Command.word .blinkCheck)) (ha : s.armed = true)
      (hd : s.deadline.toNat ≤ s.time) (ht : s.deadline.toNat + s.cfg.period ≤ timeMax) :
      Effect i s s.flip.requestIfValid

theorem rasterCommand_effect {i : Instr} {sup : Bool} {w : Word} {s t : State} (hw : encode i = .regWr cmdOffset w)
    (h : rasterCommand sup w s = .next t) : Effect i s t := by
  unfold rasterCommand at h
  split_ifs at h with hv hl <;> cases h
  · exact .error _ _ (by decide) hw
  · exact .error _ _ (by decide) hw
  · exact .raster sup (by simpa using hv) (by omega)

theorem execBuildFrames_effect {i : Instr} {s t : State} (hw : encode i = .regWr cmdOffset (Command.word .buildFrames))
    (h : execBuildFrames s = .next t) : Effect i s t := by
  unfold execBuildFrames at h
  split_ifs at h with hv hg <;> cases h
  · exact .error _ _ (by decide) hw
  · exact .incomplete (by simpa using hv) hg
  · exact .build (by simpa using hv) (by simpa using hg)

theorem execBlinkStart_effect {i : Instr} {s t : State} (hw : encode i = .regWr cmdOffset (Command.word .blinkStart))
    (h : execBlinkStart s = .next t) : Effect i s t := by
  unfold execBlinkStart at h
  split_ifs at h with ha ht <;> cases h
  · exact .error _ _ (by decide) hw
  · exact .error _ _ (by decide) hw
  · exact .start hw (by simpa using ha) (by omega)

theorem execBlinkCheck_effect {i : Instr} {s t : State} (hw : encode i = .regWr cmdOffset (Command.word .blinkCheck))
    (h : execBlinkCheck s = .next t) : Effect i s t := by
  unfold execBlinkCheck at h
  split_ifs at h with ha hd ht <;> cases h
  · exact .error _ _ (by decide) hw
  · exact .unchanged
  · exact .error _ _ (by decide) hw
  · exact .flip hw (by simpa using ha) (by omega) (by omega)

/-- The effects of a command, whichever instruction carries its word. -/
theorem runCommand_effect {i : Instr} {c : Command} {s t : State} (hw : encode i = .regWr cmdOffset c.word)
    (h : runCommand c s = .next t) : Effect i s t := by
  cases c with
  | nop => cases h; exact .unchanged
  | rasterCell sup => cases sup <;> exact rasterCommand_effect hw h
  | buildFrames => exact execBuildFrames_effect hw h
  | blinkStart => exact execBlinkStart_effect hw h
  | blinkCheck => exact execBlinkCheck_effect hw h
  | ackPresent => cases h; exact .ack

/-- A read of an element is a value read, or a read of unwritten data. -/
theorem respondRead_effect {i : Instr} {w : Nat} (f : BitVec w → Response) (v : Option (BitVec w)) (free : BitVec w)
    (s : State) : Effect i s (s.respondRead f v free) := by
  cases v with
  | none => exact .readUnwritten _
  | some v => exact .read _

/-- Only CMD is at offset 0 (30_encoding R82). -/
theorem regOfOffset_cmd {off : Offset} (h : regOfOffset off = some .cmd) : off = cmdOffset := by
  by_contra hne
  unfold regOfOffset at h
  rw [if_neg hne] at h
  repeat' split at h
  all_goals exact absurd h (by simp)

theorem execRegWr_effect {off : Offset} {data : Word} {s t : State} (h : execRegWr off data s = .next t) :
    Effect (.regWr off data) s t := by
  unfold execRegWr at h
  split_ifs at h
  split at h
  · rename_i hr
    have ho := regOfOffset_cmd hr
    subst ho
    unfold runCommandWord at h
    split at h
    · rename_i c hc
      exact runCommand_effect (by rw [word_of_decodeCommand hc]; rfl) h
    · cases h
      exact .error _ _ (by decide) rfl
  · cases h
    exact .store _ _
  · cases h
    exact .unchanged

theorem execRegRd_effect {off : Offset} {s t : State} (h : execRegRd off s = .next t) : Effect (.regRd off) s t := by
  unfold execRegRd at h
  split_ifs at h
  cases h
  exact .read _

theorem execGridWr_effect {idx : Word} {data : CellWord} {s t : State} (h : execGridWr idx data s = .next t) :
    Effect (.gridWr idx data) s t := by
  unfold execGridWr at h
  split_ifs at h with hi <;> cases h
  · exact .gridWrite _ _ rfl hi
  · exact .unchanged

theorem execGridRd_effect {idx : Word} {s t : State} (h : execGridRd idx s = .next t) : Effect (.gridRd idx) s t := by
  unfold execGridRd at h
  split_ifs at h <;> cases h
  · exact respondRead_effect _ _ _ _
  · exact .read _

theorem execPixRd_effect {a : Word} {s t : State} (h : execPixRd a s = .next t) : Effect (.pixRd a) s t := by
  unfold execPixRd at h
  split_ifs at h <;> cases h
  · exact respondRead_effect _ _ _ _
  · exact .read _

theorem execPresRd_effect {p : Word} {s t : State} (h : execPresRd p s = .next t) : Effect (.presRd p) s t := by
  unfold execPresRd at h
  split_ifs at h <;> cases h
  · exact respondRead_effect _ _ _ _
  · exact .read _

/-- Every next state of an instruction is one of its effects. -/
theorem exec_effect {i : Instr} {s t : State} (h : exec i s = .next t) : Effect i s t := by
  cases i with
  | nop => exact runCommand_effect (c := .nop) rfl h
  | rasterCell => exact runCommand_effect (c := .rasterCell false) rfl h
  | rasterCellS => exact runCommand_effect (c := .rasterCell true) rfl h
  | buildFrames => exact runCommand_effect (c := .buildFrames) rfl h
  | blinkStart => exact runCommand_effect (c := .blinkStart) rfl h
  | blinkCheck => exact runCommand_effect (c := .blinkCheck) rfl h
  | ackPresent => exact runCommand_effect (c := .ackPresent) rfl h
  | regWr off data => exact execRegWr_effect h
  | regRd off => exact execRegRd_effect h
  | gridWr idx data => exact execGridWr_effect h
  | gridRd idx => exact execGridRd_effect h
  | pixRd a => exact execPixRd_effect h
  | presRd p => exact execPresRd_effect h

/-- What a step can do: nothing (no input), a reset, a transaction turned away, or an instruction's effect. -/
theorem step_cases {s t : State} (h : step s = .next t) :
    t = s ∨ t = s.dequeue.applyReset ∨ t = s.dequeue.markRefusal ∨ ∃ i, exec i s.dequeue = .next t := by
  unfold step runNext at h
  split_ifs at h
  split at h
  · cases h
    exact .inl rfl
  · unfold runInput at h
    split at h
    · unfold runTransaction at h
      split at h
      · split_ifs at h
        · exact .inr (.inr (.inr ⟨_, h⟩))
        · cases h
          exact .inr (.inr (.inl rfl))
      · cases h
    · cases h
      exact .inr (.inl rfl)

end Sys2Proof.Machine
end

