-- ==== Sys2Proof/Laws/Params.lean ====
section
/-! SUPPORT. The laws of the parameters: what a legal configuration is, and the arithmetic of the sizes. -/

namespace Sys2Proof

/-- A configuration is legal exactly when it is in the ranges of 00_scope R9 and its tables have their shape. -/
theorem Config.legal_iff (c : Config) :
    c.legal = true ↔
      (1 ≤ c.rows ∧ c.rows ≤ 255) ∧ (1 ≤ c.cols ∧ c.cols ≤ 255) ∧ (1 ≤ c.cellW ∧ c.cellW ≤ 32) ∧
      (1 ≤ c.cellH ∧ c.cellH ≤ 255) ∧ c.pixSize ≤ 2 ^ 32 ∧ (1 ≤ c.period ∧ c.period < 2 ^ 32) ∧
      c.glyphRom.fits c.cellH = true ∧ c.palette.fits = true := by
  simp only [Config.legal, timeW, decide_eq_true_eq]

theorem Config.img_eq (c : Config) : c.img = (c.rows * c.cellH) * c.imgStride := by
  simp only [Config.img, Config.imgStride, Nat.mul_assoc]

end Sys2Proof
end

