-- ==== Sys2Proof/Laws/PerInstr.lean ====
section
/-! SUPPORT. Statements made per instruction, one lemma per constructor of Instr. -/

namespace Sys2Proof.Laws.EncodingAccepted

/-- The decoder never rejects the encoding of a well-formed instruction. -/
def Statement (i : Instr) : Prop := i.wellFormed = true → ∃ j, decode (encode i) = .ok j

theorem nop : Statement .nop := fun _ => ⟨_, rfl⟩

theorem rasterCell : Statement .rasterCell := fun _ => ⟨_, rfl⟩

theorem rasterCellS : Statement .rasterCellS := fun _ => ⟨_, rfl⟩

theorem buildFrames : Statement .buildFrames := fun _ => ⟨_, rfl⟩

theorem blinkStart : Statement .blinkStart := fun _ => ⟨_, rfl⟩

theorem blinkCheck : Statement .blinkCheck := fun _ => ⟨_, rfl⟩

theorem ackPresent : Statement .ackPresent := fun _ => ⟨_, rfl⟩

theorem regWr (off : Offset) (data : Word) : Statement (.regWr off data) := by
  intro h
  have ha : Offset.aligned off = true := by
    simp only [Instr.wellFormed, Bool.and_eq_true] at h
    exact h.1
  simp only [encode, decode, ha, if_true]
  split
  · split <;> exact ⟨_, rfl⟩
  · exact ⟨_, rfl⟩

theorem regRd (off : Offset) : Statement (.regRd off) := by
  intro h
  have ha : Offset.aligned off = true := h
  exact ⟨.regRd off, by simp [encode, decode, ha]⟩

theorem gridWr (i : Word) (data : CellWord) : Statement (.gridWr i data) := fun _ => ⟨_, rfl⟩

theorem gridRd (i : Word) : Statement (.gridRd i) := fun _ => ⟨_, rfl⟩

theorem pixRd (a : Word) : Statement (.pixRd a) := fun _ => ⟨_, rfl⟩

theorem presRd (p : Word) : Statement (.presRd p) := fun _ => ⟨_, rfl⟩

end Sys2Proof.Laws.EncodingAccepted
end

