-- ==== Sys2Proof/Tests/Slice0.lean ====
section
/-! SUPPORT. The model's own tests. Expected values come from spec/95_test_vectors.md (V-…), from the tables of
30_encoding, or from a hand calculation with a cited rule. Then, for every statement with hypotheses, a witness that meets
them. -/

namespace Sys2Proof.Tests

open Sys2Proof Sys2Proof.Machine

/-- The instance P1 of 95_test_vectors section 2 with TEST_ROM_2, and a glyph 3 whose rows are all ones. -/
def cfgP1 : Config where
  rows := 1
  cols := 2
  cellW := 2
  cellH := 2
  glyphRom := .rows ([0, 0, 2, 1, 3, 0, 3, 3] ++ List.replicate 504 0)
  palette := .openPalette
  period := 224

/-- The instance P1 at power-up. -/
def p1 : State := { State.reset with cfg := cfgP1 }

/-- The instance P1 with the grid of V-BLD-3. -/
def p1Grid : State := { p1 with grid := [(0, 0x9F01#16), (1, 0x1F02#16)] }

/-- The next state of an instruction, or the state itself where there is none. -/
def after (i : Instr) (s : State) : State :=
  match exec i s with
  | .next t => t
  | .fault _ => s
  | .refused _ => s

/-- The next state of a step, or the state itself where there is none. -/
def afterStep (s : State) : State :=
  match step s with
  | .next t => t
  | .fault _ => s
  | .refused _ => s

/-- The pixels at addresses `a` to `a + n - 1`. -/
def pixels (s : State) (a n : Nat) : List (Option Pixel) := (List.range n).map (fun k => s.pix.read (a + k))

/-! ### Well-formedness -/

theorem test_wf_misaligned_write : Instr.wellFormed (.regWr 0x015#12 0#32) = false := by decide
theorem test_wf_misaligned_read : Instr.wellFormed (.regRd 0x006#12) = false := by decide
theorem test_wf_command_as_register_write : Instr.wellFormed (.regWr 0x000#12 0x00000011#32) = false := by decide
theorem test_wf_illegal_command_word : Instr.wellFormed (.regWr 0x000#12 0x00000010#32) = true := by decide

/-! ### Decoding: one word or form for every constructor (30_encoding R76, R81) -/

theorem test_decode_nop : decode (.regWr 0x000#12 0x00000000#32) = .ok .nop := by rfl
theorem test_decode_rasterCell : decode (.regWr 0x000#12 0x00000001#32) = .ok .rasterCell := by rfl
theorem test_decode_rasterCellS : decode (.regWr 0x000#12 0x00000011#32) = .ok .rasterCellS := by rfl
theorem test_decode_buildFrames : decode (.regWr 0x000#12 0x00000002#32) = .ok .buildFrames := by rfl
theorem test_decode_blinkStart : decode (.regWr 0x000#12 0x00000003#32) = .ok .blinkStart := by rfl
theorem test_decode_blinkCheck : decode (.regWr 0x000#12 0x00000004#32) = .ok .blinkCheck := by rfl
theorem test_decode_ackPresent : decode (.regWr 0x000#12 0x00000005#32) = .ok .ackPresent := by rfl
theorem test_decode_regWr : decode (.regWr 0x010#12 640#32) = .ok (.regWr 0x010#12 640#32) := by rfl
theorem test_decode_regRd : decode (.regRd 0x020#12) = .ok (.regRd 0x020#12) := by rfl
theorem test_decode_gridWr : decode (.gridWr 1999#32 0x4AFF#16) = .ok (.gridWr 1999#32 0x4AFF#16) := by rfl
theorem test_decode_gridRd : decode (.gridRd 7#32) = .ok (.gridRd 7#32) := by rfl
theorem test_decode_pixRd : decode (.pixRd 1291#32) = .ok (.pixRd 1291#32) := by rfl
theorem test_decode_presRd : decode (.presRd 1283#32) = .ok (.presRd 1283#32) := by rfl
theorem test_decode_misaligned : decode (.regRd 0x041#12) = .error (.misalignedOffset 0x041#12) := by rfl

/-- V-ERR-1 to V-ERR-6: none of these words is a command. -/
theorem test_decode_reserved_words :
    [0x00000006#32, 0x0000000F#32, 0x00000010#32, 0x00000012#32, 0x00000020#32, 0x80000001#32].map decodeCommand =
      [none, none, none, none, none, none] := by decide

theorem test_table_word : decodeTableWord 32 0x00000011 = some .rasterCellS := by decide
theorem test_table_word_reserved : decodeTableWord 32 0x00000012 = none := by decide

/-- 30_encoding R87: `start 100` is a write of NOW and BLINK_START (Program B, line 6). -/
theorem test_expand_start :
    Pseudo.expand (.start 100#32) = [.regWr 0x014#12 0x00000064#32, .regWr 0x000#12 0x00000003#32] := by decide

/-! ### The cell rasterizer -/

/-- V-DEC-12. -/
theorem test_decode_cell : decodeCell 0xA502#16 = ⟨0x02#8, true, 2#3, 5#4⟩ := by decide

/-- V-PIX style, TEST_ROM_2: glyph 1, row 0 is `0b10`, column 0 is its most significant bit (30_encoding R71). -/
theorem test_row_pixels : rowPixels cfgP1 0x1F01#16 false 0 = [0x0F#8, 0x01#8] := by decide

/-- 40_glyph_rasterizer R106 item 2: a blink-suppressed cell is background only. -/
theorem test_row_pixels_suppressed : rowPixels cfgP1 0x9F01#16 true 0 = [0x01#8, 0x01#8] := by decide

/-- 40_glyph_rasterizer R110, R113: cell 0x1F01 at stride 1, where row 1 `1F` overwrites the second pixel of row 0 `F1`. -/
theorem test_raster_overlap :
    pixels (after .rasterCell { p1 with cell := 0x1F01#16, dstBase := 3#32, dstStride := 1#32 }) 2 5 =
      [none, some 0x0F#8, some 0x01#8, some 0x0F#8, none] := by decide

/-- V-RAS-7: DST_RANGE, STATUS 0x320, ERR_CMD 1. -/
theorem test_raster_range :
    let t := after .rasterCell { State.reset with cell := 0x0F41#16, dstBase := 511993#32 }
    (t.statusWord, t.errCmd, t.pix) = (0x00000320#32, 0x00000001#32, []) := by decide

/-- V-RAS-10: the sum is taken without wrap-around; the word is RASTER_CELL.S's own. -/
theorem test_rasterS_no_wrap :
    let t := after .rasterCellS { State.reset with dstStride := 0xFFFFFFFF#32 }
    (t.errCode, t.errCmd) = (.dstRange, 0x00000011#32) := by decide

/-- RASTER_CELL.S suppresses the glyph of a blinking cell (40_glyph_rasterizer R103): bg 1 everywhere. -/
theorem test_rasterS_suppresses :
    pixels (after .rasterCellS { p1 with cell := 0x9F01#16, dstStride := 2#32 }) 0 5 =
      [some 1#8, some 1#8, some 1#8, some 1#8, none] := by decide

/-! ### The frame builder -/

/-- V-BLD-3: V = `F1FF` `1F11`, S = `11FF` `1111`. -/
theorem test_build_images :
    pixels (after .buildFrames p1Grid) 0 16 =
      [0x0F#8, 0x01#8, 0x0F#8, 0x0F#8, 0x01#8, 0x0F#8, 0x01#8, 0x01#8,
        0x01#8, 0x01#8, 0x0F#8, 0x0F#8, 0x01#8, 0x01#8, 0x01#8, 0x01#8].map some := by decide

/-- V-BLD-1: STATUS 0x09 and one event; V-BLD-6: an incomplete grid sets the fault mark and nothing else. -/
theorem test_build_status :
    ((after .buildFrames p1Grid).statusWord, (after .buildFrames p1Grid).presents) = (0x00000009#32, [.visible]) ∧
    after .buildFrames { p1 with grid := [(0, 0x9F01#16)] } =
      { p1 with grid := [(0, 0x9F01#16)], faultMark := true } := by decide +kernel

/-! ### The blink scheduler -/

/-- V-BLK-2 and V-BLK-11. -/
theorem test_blink_start :
    ((after .blinkStart { p1 with now := 1000#32 }).deadline, (after .blinkStart { p1 with now := 1000#32 }).statusWord,
      (after .blinkStart { p1 with now := 0xFFFFFF20#32 }).statusWord) =
      (1224#32, 0x00000002#32, 0x00000620#32) := by decide

/-- V-BLK-12: the largest legal start. -/
theorem test_blink_start_edge : (after .blinkStart { p1 with now := 0xFFFFFF1F#32 }).deadline = 0xFFFFFFFF#32 := by decide

/-- V-BLK-6: a check many periods late flips once. -/
theorem test_blink_check_once :
    let t := after .blinkCheck { p1 with armed := true, framesValid := true, now := 2000#32, deadline := 1672#32 }
    (t.phase, t.deadline, t.presents, t.statusWord) = (.suppressed, 1896#32, [.suppressed], 0x0000000F#32) := by decide

/-- V-BLK-14: a due flip past the top of the time range. -/
theorem test_blink_check_overflow :
    let t := after .blinkCheck { p1 with armed := true, now := 0xFFFFFFFF#32, deadline := 0xFFFFFFFF#32 }
    (t.phase, t.deadline, t.errCode) = (.visible, 0xFFFFFFFF#32, .timeOverflow) := by decide

/-! ### The host interface -/

/-- 43_host_interface R181, worked example: 0x0F becomes 0x07. -/
theorem test_ack :
    (after .ackPresent { p1 with framesValid := true, armed := true, phase := .suppressed, pend := true }).statusWord =
      0x00000007#32 := by decide

/-- 43_host_interface R180, worked example. -/
theorem test_nop : after .nop p1Grid = p1Grid := by rfl

/-- V-RAS-13: CELL keeps its low half. -/
theorem test_regWr_cell : (after (.regWr 0x008#12 0xFFFF1234#32) p1).cell = 0x1234#16 := by decide

/-- V-ERR-1 and V-ERR-7: the first error is kept. -/
theorem test_regWr_illegal_command :
    let t := after (.regWr 0x000#12 0x00000007#32) (after (.regWr 0x000#12 0x00000006#32) p1)
    (t.statusWord, t.errCmd, t.faultMark) = (0x00000120#32, 0x00000006#32, true) := by decide

/-- V-REG-2, V-REG-5, V-REG-7 (log 7). -/
theorem test_regRd :
    (after (.regRd 0x01C#12) p1).responses = [.reg 0x000000E0#32] ∧
    (after (.regRd 0x028#12) p1).responses = [.reg 0x00000000#32] ∧
    (after (.regRd 0x07C#12) p1).responses = [.reg 0x00FFFFFF#32] := by decide

/-- GEOM of P1 by the layout of 30_encoding R83: H 2, W 2, C 2, R 1. -/
theorem test_regRd_geom : (after (.regRd 0x020#12) p1).responses = [.reg 0x02020201#32] := by decide

/-- GEOM of this hardware by the layout of 30_encoding R83: H 0x10, W 0x08, C 0x50, R 0x19 (V-REG-1 prints another number,
log 18). -/
theorem test_regRd_geom_default : (after (.regRd 0x020#12) State.reset).responses = [.reg 0x10085019#32] := by decide

/-- A palette entry of three different channels: `{0, R, G, B}` (30_encoding R73). -/
theorem test_palette_word : Rgb.word ⟨0x12#8, 0x34#8, 0x56#8⟩ = 0x00123456#32 := by decide

/-- V-REG-8: a grid write out of range is ignored; in range it is kept in address order. -/
theorem test_gridWr :
    after (.gridWr 2#32 0x1234#16) p1 = p1 ∧
    (after (.gridWr 0#32 0x1F01#16) (after (.gridWr 1#32 0xA502#16) p1)).grid = [(0, 0x1F01#16), (1, 0xA502#16)] := by
  decide +kernel

/-- 43_host_interface R188: a written word, and 0 out of range. -/
theorem test_gridRd :
    (after (.gridRd 1#32) p1Grid).responses = [.grid 0x1F02#16] ∧
    (after (.gridRd 2#32) p1Grid).responses = [.grid 0x0000#16] := by decide

/-- 10_state R44: a read of an unwritten word sets the fault mark. -/
theorem test_gridRd_unwritten : (after (.gridRd 1#32) p1).faultMark = true := by rfl

/-- 20_memory R59: two reads of one unwritten pixel return the same value. -/
theorem test_pixRd_idempotent :
    (after (.pixRd 15#32) (after (.pixRd 15#32) p1)).responses =
      [.pix (p1.unwrittenPixel 15), .pix (p1.unwrittenPixel 15)] := by rfl

/-- V-REG-9 on P1, and a written pixel. -/
theorem test_pixRd :
    (after (.pixRd 16#32) p1).responses = [.pix 0x00#8] ∧
    (after (.pixRd 5#32) { p1 with pix := [(5, 0x0A#8)] }).responses = [.pix 0x0A#8] := by decide

theorem test_pixRd_unwritten : (after (.pixRd 15#32) p1).faultMark = true := by rfl

/-- Program B, lines 4 and 9: presentation address 2 reads V at 2 and S at IMG + 2. -/
theorem test_presRd :
    (after (.presRd 2#32) { p1 with pix := [(2, 0x05#8), (10, 0x02#8)] }).responses = [.pres 0x05#8] ∧
    (after (.presRd 2#32) { p1 with pix := [(2, 0x05#8), (10, 0x02#8)], phase := .suppressed }).responses =
      [.pres 0x02#8] := by decide

theorem test_presRd_unwritten : (after (.presRd 7#32) p1).faultMark = true := by rfl

/-- The host's own question: a table word runs as the first instruction after reset (BLINK_CHECK: NOT_ARMED). -/
theorem test_withFetchWord : (afterStep (State.reset.withFetchWord 32 4)).statusWord = 0x00000420#32 := by decide

/-- 70_reset_and_hazards R240: the reset input unwrites the pixels and keeps the grid. -/
theorem test_reset_input :
    let t := afterStep { p1Grid with pix := [(0, 1#8)], framesValid := true, pending := [.rst] }
    (t.pix, t.grid, t.statusWord) = ([], p1Grid.grid, 0#32) := by decide +kernel

/-! ### Witnesses: for every statement with hypotheses, a state and operands that meet them -/

theorem witness_EncodeThenDecode : Instr.wellFormed (.regWr 0xFFC#12 0x00000003#32) = true := by decide
theorem witness_DecodeThenEncode : decode (.regWr 0x000#12 0x00000005#32) = .ok .ackPresent := by rfl
theorem witness_MisalignedOffsetRejected :
    BitVec.extractLsb' 0 2 (0x001#12) ≠ 0#2 ∧ BitVec.extractLsb' 0 2 (0xFFF#12) ≠ 0#2 := by decide
theorem witness_StepRunsTheDecodedTransaction :
    p1.cfg.legal = true ∧ p1.busy = false ∧ decode (.gridWr 0#32 7#16) = .ok (.gridWr 0#32 7#16) := by decide +kernel
theorem witness_StepWaitsWithoutInput : State.reset.cfg.legal = true ∧ State.reset.pending = [] := by decide
theorem witness_ResetInputSetsEveryRegister :
    let s := { State.reset with pending := [HostInput.rst] }
    s.cfg.legal = true ∧ s.pending = .rst :: [] := by decide
theorem witness_IllegalConfigurationRefused :
    let c : Config := { cfgP1 with rows := 256 }
    ¬(1 ≤ c.rows ∧ c.rows ≤ 255) := by decide
theorem witness_BusyAdmitsOnlyStatusReads :
    let s := { p1 with busy := true, pending := [HostInput.txn (.regRd 0x004#12)] }
    s.cfg.legal = true ∧ s.busy = true ∧ s.pending = .txn (.regRd 0x004#12) :: [] ∧
    decode (.regRd 0x004#12) = .ok (.regRd 0x004#12) ∧ decode (.regRd 0x008#12) = .ok (.regRd 0x008#12) := by decide +kernel
theorem witness_EveryStepOfALegalInstanceCompletes :
    let s := { p1 with pending := [HostInput.txn (.regWr 0x000#12 3#32)] }
    s.cfg.legal = true ∧
    (∀ off data, s.pending.head? = some (.txn (.regWr off data)) → off.extractLsb' 0 2 = 0#2) ∧
    (∀ off, s.pending.head? = some (.txn (.regRd off)) → off.extractLsb' 0 2 = 0#2) := by
  refine ⟨by decide +kernel, fun off data h => ?_, fun off h => ?_⟩
  · cases h
    decide
  · cases h
theorem witness_RegWriteElsewhereIgnored :
    ∀ off ∈ [0x004#12, 0x018#12, 0x028#12, 0x03C#12, 0x040#12, 0x07C#12, 0x080#12, 0xFFC#12],
      off.extractLsb' 0 2 = 0#2 ∧ off ≠ 0x000#12 ∧ off ≠ 0x008#12 ∧ off ≠ 0x00C#12 ∧ off ≠ 0x010#12 ∧ off ≠ 0x014#12 := by
  decide
theorem witness_RegReadReturnsTheMappedRegister :
    ∀ off ∈ [0x000#12, 0x024#12, 0x028#12, 0x03C#12, 0x040#12, 0x07C#12, 0x080#12, 0xFFC#12], off.extractLsb' 0 2 = 0#2 := by
  decide
theorem witness_GeomBytesAreTheParameters :
    State.reset.cfg.legal = true ∧
    let s := { State.reset with cfg := { Config.thisHardware with rows := 255, cols := 255, cellW := 32, cellH := 255 } }
    s.cfg.legal = true := by decide
theorem witness_PeriodReportsTheParameter :
    let s := { State.reset with cfg := { Config.thisHardware with period := 2 ^ 32 - 1 } }
    s.cfg.legal = true := by decide
theorem witness_PaletteRegisterLayout :
    let l := Rgb.black :: List.replicate 14 ⟨0x12#8, 0x34#8, 0x56#8⟩ ++ [Rgb.white]
    let c := { cfgP1 with palette := Palette.entries l }
    c.palette = .entries l ∧ l.length = 16 := ⟨rfl, rfl⟩
theorem witness_GridWriteWritesOneWord :
    (1999#32).toNat < State.reset.cfg.rows * State.reset.cfg.cols ∧
    State.reset.cfg.rows * State.reset.cfg.cols ≤ (2000#32).toNat := by decide
theorem witness_GridReadReturnsTheWord :
    p1Grid.cfg.rows * p1Grid.cfg.cols ≤ (2#32).toNat ∧
    ((1#32).toNat < p1Grid.cfg.rows * p1Grid.cfg.cols ∧ p1Grid.grid.read (1#32).toNat = some 0x1F02#16) ∧
    ((1#32).toNat < p1.cfg.rows * p1.cfg.cols ∧ p1.grid.written (1#32).toNat = false) := by decide
theorem witness_PixelReadReturnsThePixel :
    let s := { p1 with pix := [(15, 0x0A#8)] }
    s.cfg.pixSize ≤ (16#32).toNat ∧ ((15#32).toNat < s.cfg.pixSize ∧ s.pix.read (15#32).toNat = some 0x0A#8) ∧
    ((0#32).toNat < s.cfg.pixSize ∧ s.pix.written (0#32).toNat = false) := by decide
theorem witness_PresentationReadGoesThroughTheMux :
    let s := { p1 with pix := [(7, 0x05#8), (15, 0x02#8)] }
    let u := { s with phase := Phase.suppressed }
    s.cfg.img ≤ (8#32).toNat ∧
    ((7#32).toNat < s.cfg.img ∧ s.phase = .visible ∧ s.pix.read (7#32).toNat = some 0x05#8) ∧
    ((7#32).toNat < u.cfg.img ∧ u.phase = .suppressed ∧ u.pix.read (u.cfg.img + (7#32).toNat) = some 0x02#8) ∧
    ((0#32).toNat < u.cfg.img ∧
      u.pix.written ((if u.phase = .suppressed then u.cfg.img else 0) + (0#32).toNat) = false) := by decide
theorem witness_ReadsAreIdempotent :
    (∃ a, Instr.pixRd 15#32 = .pixRd a) ∧ ∃ t, exec (.pixRd 15#32) p1 = .next t := ⟨⟨_, rfl⟩, ⟨_, rfl⟩⟩
theorem witness_PresentationIsAViewOfThePixels :
    State.reset.cfg.legal = true ∧ (255999#32).toNat < State.reset.cfg.img := by decide
theorem witness_NopChangesNothing :
    BitVec.extractLsb' 0 4 (0x00000010#32) = 0x0#4 ∧ (0x00000010#32) ≠ 0#32 ∧
    BitVec.extractLsb' 0 4 (0x80000000#32) = 0x0#4 ∧ (0x80000000#32) ≠ 0#32 := by decide
theorem witness_BlinkStartArmsTheScheduler :
    let a := { p1 with armed := true }
    let b := { p1 with now := 0xFFFFFF20#32 }
    let c := { p1 with now := 0xFFFFFF1F#32 }
    a.armed = true ∧ (b.armed = false ∧ 2 ^ 32 - 1 < b.now.toNat + b.cfg.period) ∧
    (c.armed = false ∧ c.now.toNat + c.cfg.period ≤ 2 ^ 32 - 1) := by decide
theorem witness_BlinkCheckFlipsOncePerDeadline :
    let a := { p1 with armed := true, now := 1223#32, deadline := 1224#32 }
    let b := { p1 with armed := true, now := 0xFFFFFFFF#32, deadline := 0xFFFFFF20#32 }
    let c := { p1 with armed := true, now := 0xFFFFFF1F#32, deadline := 0xFFFFFF1F#32 }
    p1.armed = false ∧ (a.armed = true ∧ a.now.toNat < a.deadline.toNat) ∧
    (b.armed = true ∧ b.deadline.toNat ≤ b.now.toNat ∧ 2 ^ 32 - 1 < b.deadline.toNat + b.cfg.period) ∧
    (c.armed = true ∧ c.deadline.toNat ≤ c.now.toNat ∧ c.deadline.toNat + c.cfg.period ≤ 2 ^ 32 - 1) := by decide
/-- The first lines of the table of 95_test_vectors section 3.5: T0 = 0, checks at 100 and 224, k = 1, with a read of
STATUS between them. -/
theorem witness_PhaseFollowsElapsedTime :
    let s := after .blinkStart p1
    let ts := Pseudo.expand (.check 100#32) ++ [.regRd 0x004#12] ++ Pseudo.expand (.check 224#32)
    p1.armed = false ∧ exec .blinkStart p1 = .next s ∧ (∃ u, runTransactions ts s = some (u, [100] ++ [224])) ∧
    p1.now.toNat + (1 + 1) * p1.cfg.period ≤ 2 ^ 32 - 1 ∧ ([100] ++ [224]).Pairwise (fun a b => a ≤ b) ∧
    (∀ t ∈ [100], p1.now.toNat ≤ t) ∧
    (∀ j, 1 ≤ j → j ≤ 1 → ∃ t ∈ [100] ++ [224],
      p1.now.toNat + j * p1.cfg.period ≤ t ∧ t < p1.now.toNat + (j + 1) * p1.cfg.period) ∧
    p1.now.toNat + 1 * p1.cfg.period ≤ 224 ∧ 224 < p1.now.toNat + (1 + 1) * p1.cfg.period := by
  refine ⟨rfl, rfl, ⟨_, rfl⟩, by decide, by decide, by decide, fun j h1 h2 => ?_, by decide, by decide⟩
  obtain rfl : j = 1 := by omega
  exact ⟨224, by decide, by decide, by decide⟩
theorem witness_EveryStepKeepsTheEpoch :
    let s := { State.reset with now := 100#32 }
    let t := after .blinkStart s
    s.armed = false ∧ exec .blinkStart s = .next t ∧ t.armed = true ∧ t.OnEpoch 100 ∧ ∃ u, step t = .next u :=
  ⟨rfl, rfl, rfl, fun _ => ⟨0, rfl, rfl⟩, ⟨_, rfl⟩⟩
theorem witness_GlyphRowIsItsTableEntry :
    ∃ l, cfgP1.glyphRom = .rows l ∧ l.length = 256 * cfgP1.cellH ∧ 1 < cfgP1.cellH :=
  ⟨_, rfl, by decide +kernel, by decide⟩
theorem witness_PixelFunctionInClosedForm : 0 < cfgP1.cellW ∧ 1 < cfgP1.cellW ∧ 0 < cfgP1.cellH ∧ 1 < cfgP1.cellH := by
  decide
theorem witness_PixelFunctionHasItsProperties :
    glyphBit cfgP1 (decodeCell 0x1F01#16).code 1 0 = false ∧ (decodeCell 0x9F01#16).blink = true ∧
    (decodeCell 0x1F01#16).blink = false ∧ (decodeCell 0x7701#16).fg = (decodeCell 0x7701#16).bg.setWidth 4 ∧
    (∀ y, y < cfgP1.cellH → ∀ b, b < cfgP1.cellW →
      (cfgP1.glyphRow (decodeCell 0x1F00#16).code y).getLsbD b = false) ∧
    (∀ y, y < cfgP1.cellH → ∀ b, b < cfgP1.cellW →
      (cfgP1.glyphRow (decodeCell 0x1F03#16).code y).getLsbD b = true) := by decide
theorem witness_RasterCellWritesItsFootprint :
    let s := { p1 with cell := 0x1F01#16, dstBase := 10#32, dstStride := 4#32 }
    let u := { p1 with cell := 0x1F01#16, dstBase := 3#32, dstStride := 1#32 }
    (s.framesValid = false ∧
      s.dstBase.toNat + (s.cfg.cellH - 1) * s.dstStride.toNat + (s.cfg.cellW - 1) < s.cfg.pixSize ∧
      s.cfg.cellW ≤ s.dstStride.toNat) ∧
    (u.framesValid = false ∧
      u.dstBase.toNat + (u.cfg.cellH - 1) * u.dstStride.toNat + (u.cfg.cellW - 1) < u.cfg.pixSize ∧
      ∀ x', x' < u.cfg.cellW → ∀ y', y' < u.cfg.cellH →
        u.dstBase.toNat + y' * u.dstStride.toNat + x' = u.dstBase.toNat + 1 * u.dstStride.toNat + 0 →
        y' < 1 ∨ (y' = 1 ∧ x' ≤ 0)) := by decide
theorem witness_RasterCellChecksInOrder :
    let s := { p1 with dstBase := 11#32, dstStride := 4#32 }
    ({ s with framesValid := true }).framesValid = true ∧ s.framesValid = false ∧
    s.cfg.pixSize ≤ s.dstBase.toNat + (s.cfg.cellH - 1) * s.dstStride.toNat + (s.cfg.cellW - 1) ∧
    1 < s.cfg.cellW ∧ 1 < s.cfg.cellH := by decide
theorem witness_StrideZeroLeavesTheLastRow :
    let s := { p1 with dstBase := 14#32 }
    s.framesValid = false ∧ 1 ≤ s.cfg.cellH ∧ s.dstStride = 0#32 ∧
    s.dstBase.toNat + (s.cfg.cellW - 1) < s.cfg.pixSize := by decide
theorem witness_RasterCellDependsOnItsOperands :
    let u := { p1Grid with now := 5#32, pend := true, pix := [(9, 3#8)] }
    p1.cfg = u.cfg ∧ p1.cell = u.cell ∧ p1.dstBase = u.dstBase ∧ p1.dstStride = u.dstStride ∧
    p1.framesValid = u.framesValid ∧ p1.pix.read 0 = u.pix.read 0 := by decide +kernel
theorem witness_BuildFramesRastersBothImages :
    p1Grid.framesValid = false ∧ (∀ i, i < p1Grid.cfg.rows * p1Grid.cfg.cols → p1Grid.grid.written i = true) ∧
    1 < p1Grid.cfg.rows * p1Grid.cfg.cellH ∧ 3 < p1Grid.cfg.cols * p1Grid.cfg.cellW ∧
    p1Grid.grid.read ((1 / p1Grid.cfg.cellH) * p1Grid.cfg.cols + 3 / p1Grid.cfg.cellW) = some 0x1F02#16 := by decide
theorem witness_BuildFramesLockedOrIncomplete :
    ({ p1 with framesValid := true }).framesValid = true ∧ p1.framesValid = false ∧
    1 < p1.cfg.rows * p1.cfg.cols ∧ p1.grid.written 1 = false := by decide
theorem witness_BuildFramesForgetsThePast :
    let u := { p1Grid with now := 5#32, pix := [(9, 3#8)] }
    p1Grid.cfg = u.cfg ∧ p1Grid.framesValid = false ∧ u.framesValid = false ∧
    (∀ i, i < p1Grid.cfg.rows * p1Grid.cfg.cols → p1Grid.grid.written i = true ∧ p1Grid.grid.read i = u.grid.read i) := by
  decide +kernel
theorem witness_BlinkingCellsAreBlankInTheSuppressedImage :
    p1Grid.framesValid = false ∧ (∀ i, i < p1Grid.cfg.rows * p1Grid.cfg.cols → p1Grid.grid.written i = true) ∧
    (∃ t, exec .buildFrames p1Grid = .next t) ∧ 0 < p1Grid.cfg.rows ∧ 1 < p1Grid.cfg.cols ∧ 1 < p1Grid.cfg.cellW ∧
    1 < p1Grid.cfg.cellH ∧
    (p1Grid.grid.read (0 * p1Grid.cfg.cols + 1) = some 0x1F02#16 ∧ BitVec.getLsbD (0x1F02#16) 15 = false) ∧
    (p1Grid.grid.read (0 * p1Grid.cfg.cols + 0) = some 0x9F01#16 ∧ BitVec.getLsbD (0x9F01#16) 15 = true) :=
  ⟨by decide, by decide, ⟨_, rfl⟩, by decide, by decide, by decide, by decide, by decide, by decide⟩
theorem witness_ErrorEntryKeepsTheFirstError :
    p1.err = false ∧ (after .blinkCheck p1).err = true := by decide
theorem witness_ErroneousCommandChangesOnlyTheErrorRegisters :
    ∃ t, exec .blinkCheck p1 = .next t ∧ p1.err = false ∧ t.err = true := ⟨_, rfl, rfl, rfl⟩
theorem witness_ErrorsAreStickyUntilReset :
    ∃ t, exec .ackPresent (after .blinkCheck p1) = .next t ∧ (after .blinkCheck p1).err = true := ⟨_, rfl, rfl⟩
theorem witness_EveryStepKeepsTheInvariant :
    State.reset.grid.wf ∧ State.reset.pix.wf ∧ (State.reset.framesValid = false ∧ State.reset.pend = false) ∧
    (∀ a, State.reset.pix.written a = false) ∧ ∃ t, step (State.reset.withFetchWord 32 4) = .next t :=
  ⟨Memory.wf_nil, Memory.wf_nil, by decide, fun _ => rfl, ⟨_, rfl⟩⟩
theorem witness_NoStepChangesTheConstants : ∃ t, step (State.reset.withFetchWord 32 3) = .next t := ⟨_, rfl⟩
theorem witness_MarksAndTraceOnlyGrow :
    let s := { State.reset with faultMark := true, refusalMark := true }
    (∃ t, step s = .next t) ∧ s.faultMark = true ∧ s.refusalMark = true := ⟨⟨_, rfl⟩, rfl, rfl⟩
theorem witness_PublishedImagesAreReadOnly :
    let s := after .buildFrames p1Grid
    (∃ t, exec .rasterCell s = .next t) ∧ s.framesValid = true := ⟨⟨_, rfl⟩, by decide⟩
theorem witness_PresentEventsComeFromPublishAndFlip :
    ∃ t, exec .buildFrames p1Grid = .next t := ⟨_, rfl⟩
theorem witness_OnlyGridWritesChangeTheGrid :
    ∃ t, exec (.gridWr 1#32 0xA502#16) p1 = .next t ∧ t.grid ≠ p1.grid := ⟨_, rfl, by decide⟩

end Sys2Proof.Tests
end

section
/-! The scope of the model (00_scope): what one step does with the host's next input, the refusal of an instance outside
the legal ranges, and the constants of this hardware. -/

namespace Sys2Proof.Machine

/-! ### The step, input by input -/

/-- An instance whose parameters are not legal is refused, whatever its inputs (00_scope R9). -/
theorem step_of_not_legal {s : State} (h : ¬ s.cfg.legal = true) : step s = .refused .configOutOfRange :=
  if_pos (Bool.eq_false_iff.mpr h)

/-- A legal instance consumes its next input and runs it. -/
theorem step_of_pending_cons {s : State} {h : HostInput} {rest : List HostInput} (hl : s.cfg.legal = true)
    (hp : s.pending = h :: rest) : step s = runInput h { s with pending := rest } := by
  simp [step, runNext, State.dequeue, hl, hp]

/-- While BUSY = 0 every transaction is admitted (70_reset_and_hazards R250). -/
theorem admitted_of_not_busy {s : State} (hb : s.busy = false) (i : Instr) : admitted s i = true := by
  simp [admitted, hb]

/-- An admitted transaction is the instruction it decodes to. -/
theorem runTransaction_of_admitted {t : Transaction} {i : Instr} {s : State} (hd : decode t = .ok i)
    (ha : admitted s i = true) : runTransaction t s = exec i s := by
  simp [runTransaction, hd, ha]

/-- Settles O6: the step runs the transaction, which BUSY = 0 admits. -/
theorem stepRunsTheDecodedTransaction : Obligations.StepRunsTheDecodedTransaction := by
  intro s t rest i hl hb hp hd
  calc step s = runTransaction t { s with pending := rest } := step_of_pending_cons hl hp
    _ = exec i { s with pending := rest } := runTransaction_of_admitted hd (admitted_of_not_busy hb i)

/-! ### The legal ranges -/

/-- Settles O10: a legal configuration is within every range, so one outside a range is not legal. -/
theorem illegalConfigurationRefused : Obligations.IllegalConfigurationRefused := by
  intro s hout
  refine step_of_not_legal fun hlegal => hout ?_
  obtain ⟨⟨hr, hr'⟩, ⟨hc, hc'⟩, ⟨hw, hw'⟩, ⟨hh, hh'⟩, hpix, ⟨hp, hp'⟩, -, -⟩ := (Config.legal_iff s.cfg).mp hlegal
  exact ⟨hr, hr', hc, hc', hw, hw', hh, hh', hpix, hp, hp'⟩

/-! ### The constants of this hardware -/

theorem thisHardware_legal : Config.thisHardware.legal = true :=
  (Config.legal_iff _).mpr (by decide)

/-- Entry 0 of the open palette is black (10_state R38). -/
theorem paletteEntry_zero_of_open {c : Config} (h : c.palette = .openPalette) : c.paletteEntry 0 = Rgb.black := by
  simp [Config.paletteEntry, h]

/-- Entry 15 of the open palette is white (10_state R38, log 7). -/
theorem paletteEntry_fifteen_of_open {c : Config} (h : c.palette = .openPalette) : c.paletteEntry 15 = Rgb.white := by
  simp [Config.paletteEntry, h]

/-- Settles O17: the parameters of this hardware are legal, its sizes and words are computed from them, and its palette is
the open one. -/
theorem constantsOfThisHardware : Obligations.ConstantsOfThisHardware := by
  have hopen : State.reset.cfg.palette = .openPalette := rfl
  refine ⟨thisHardware_legal, ?period, ?cells, ?img, ?imgStride, ?pixSize, ?geom, ?black, ?white⟩
  case black => rw [paletteEntry_zero_of_open hopen]; decide
  case white => rw [paletteEntry_fifteen_of_open hopen]; decide
  all_goals decide

end Sys2Proof.Machine
end

section
/-! The invariant of the machine (10_state R46) and what no step or instruction changes (R28, R36 to R44): the writes of the
rasterizer and the frame builder stay inside the pixel space and fill it, then each invariant by cases on `Effect`. -/

namespace Sys2Proof.Machine

/-! ### The pixels of the cells -/

/-- Row `i` of `n`, column `j` of `k`, is one of `n * k` places. -/
theorem row_col_lt_mul {i n j k : Nat} (hi : i < n) (hj : j < k) : i * k + j < n * k := by
  rw [Nat.mul_comm i k]
  exact Nat.mul_add_lt_mul_of_lt_of_lt hi hj

/-- A number below a product is one of its places: row `i` of `n`, column `j` of `k`. -/
theorem exists_row_col_of_lt_mul {a n k : Nat} (h : a < n * k) : ∃ i < n, ∃ j < k, i * k + j = a :=
  have hk : 0 < k := Nat.pos_of_mul_pos_left (Nat.zero_lt_of_lt h)
  ⟨a / k, Nat.div_lt_of_lt_mul (Nat.mul_comm n k ▸ h), a % k, Nat.mod_lt a hk, Nat.div_add_mod' a k⟩

/-- Column `x`, row `y` of a cell's sub-rectangle, by its pixel row and pixel column in the image (41_frame_builder R132). -/
theorem cellOrigin_add (c : Config) (row col x y : Nat) :
    cellOrigin c row col + y * c.imgStride + x = (row * c.cellH + y) * c.imgStride + (col * c.cellW + x) := by
  unfold cellOrigin
  ring

/-- Every pixel of every cell is inside the image (41_frame_builder R132). -/
theorem cellOrigin_add_lt_img {c : Config} {row col x y : Nat} (hrow : row < c.rows) (hcol : col < c.cols)
    (hx : x < c.cellW) (hy : y < c.cellH) : cellOrigin c row col + y * c.imgStride + x < c.img := by
  have hpy : row * c.cellH + y < c.rows * c.cellH := row_col_lt_mul hrow hy
  have hpx : col * c.cellW + x < c.imgStride := row_col_lt_mul hcol hx
  rw [cellOrigin_add, Config.img_eq]
  exact row_col_lt_mul hpy hpx

/-- Every pixel of the image belongs to a cell (41_frame_builder R132). -/
theorem exists_cell_of_lt_img {c : Config} {a : Nat} (h : a < c.img) :
    ∃ row < c.rows, ∃ col < c.cols, ∃ x < c.cellW, ∃ y < c.cellH, cellOrigin c row col + y * c.imgStride + x = a := by
  rw [Config.img_eq] at h
  obtain ⟨py, hpy, px, hpx, rfl⟩ := exists_row_col_of_lt_mul h
  obtain ⟨row, hrow, y, hy, rfl⟩ := exists_row_col_of_lt_mul hpy
  obtain ⟨col, hcol, x, hx, rfl⟩ := exists_row_col_of_lt_mul hpx
  exact ⟨row, hrow, col, hcol, x, hx, y, hy, cellOrigin_add c row col x y⟩

/-- A cell's sub-rectangle of image V, at `cellOrigin`, and the one of image S, IMG above it, are inside the pixel space. -/
theorem cell_lt_pixSize {c : Config} {row col base : Nat} (hrow : row < c.rows) (hcol : col < c.cols)
    (hbase : base = cellOrigin c row col ∨ base = c.img + cellOrigin c row col) (x y : Nat) (hx : x < c.cellW)
    (hy : y < c.cellH) : base + y * c.imgStride + x < c.pixSize := by
  have := cellOrigin_add_lt_img hrow hcol hx hy
  unfold Config.pixSize
  omega

/-- Every pixel of the pixel space belongs to a cell's sub-rectangle of one of the two images. -/
theorem exists_cell_of_lt_pixSize {c : Config} {a : Nat} (h : a < c.pixSize) :
    ∃ row < c.rows, ∃ col < c.cols, ∃ x < c.cellW, ∃ y < c.cellH, ∃ base,
      (base = cellOrigin c row col ∨ base = c.img + cellOrigin c row col) ∧ base + y * c.imgStride + x = a := by
  by_cases hv : a < c.img
  · obtain ⟨row, hrow, col, hcol, x, hx, y, hy, ha⟩ := exists_cell_of_lt_img hv
    exact ⟨row, hrow, col, hcol, x, hx, y, hy, _, .inl rfl, ha⟩
  · have hs : a - c.img < c.img := by unfold Config.pixSize at h; omega
    obtain ⟨row, hrow, col, hcol, x, hx, y, hy, ha⟩ := exists_cell_of_lt_img hs
    exact ⟨row, hrow, col, hcol, x, hx, y, hy, _, .inr rfl, by omega⟩

/-! ### What every write of a palette index inside the pixel space keeps -/

/-- `P` is kept by every write of a palette index inside the pixel space (20_memory R54, R55). -/
def KeptByPixelWrites (c : Config) (P : Memory 8 → Prop) : Prop :=
  ∀ (m : Memory 8) (a : Nat) (v : Pixel), a < c.pixSize → v.toNat < 16 → P m → P (m.write a v)

/-- The pixel loop keeps `P` where its footprint is inside the pixel space. -/
theorem KeptByPixelWrites.after_rasterInto {c : Config} {P : Memory 8 → Prop} (hP : KeptByPixelWrites c P)
    {base stride : Nat} (hin : ∀ x y, x < c.cellW → y < c.cellH → base + y * stride + x < c.pixSize)
    (cell : CellWord) (sup : Bool) {m : Memory 8} (h : P m) : P (rasterInto c base stride cell sup m) :=
  rasterInto_induct c base stride cell sup
    (fun m x y hx hy hm => hP m _ _ (hin x y hx hy) (pixelOf_lt c cell sup x y) hm) m h

/-- One cell of the grid iterator keeps `P`. -/
theorem KeptByPixelWrites.after_buildCell {c : Config} {P : Memory 8 → Prop} (hP : KeptByPixelWrites c P)
    (g : Nat → CellWord) {row col : Nat} (hrow : row < c.rows) (hcol : col < c.cols) {m : Memory 8} (h : P m) :
    P (buildCell c g row col m) :=
  hP.after_rasterInto (cell_lt_pixSize hrow hcol (.inr rfl)) _ _
    (hP.after_rasterInto (cell_lt_pixSize hrow hcol (.inl rfl)) _ _ h)

/-- One row of cells of the grid iterator keeps `P`. -/
theorem KeptByPixelWrites.after_buildRow {c : Config} {P : Memory 8 → Prop} (hP : KeptByPixelWrites c P)
    (g : Nat → CellWord) {row : Nat} (hrow : row < c.rows) {m : Memory 8} (h : P m) :
    P ((List.range c.cols).foldl (fun m col => buildCell c g row col m) m) :=
  List.foldlRecOn _ _ h fun _ hm _ hcol => hP.after_buildCell g hrow (List.mem_range.1 hcol) hm

/-- The grid iterator keeps `P`. -/
theorem KeptByPixelWrites.after_buildImages {c : Config} {P : Memory 8 → Prop} (hP : KeptByPixelWrites c P)
    (g : Nat → CellWord) {m : Memory 8} (h : P m) : P (buildImages c g m) :=
  List.foldlRecOn _ _ h fun _ hm _ hrow => hP.after_buildRow g (List.mem_range.1 hrow) hm

/-! ### The form of the pixel space -/

/-- The pixel space is canonical, in range, and holds palette indices (20_memory R54, R55): the part of `State.MemoryInv`
about the pixels, without the frames. -/
structure PixelsFit (c : Config) (m : Memory 8) : Prop where
  wf : m.wf
  range : ∀ a, m.written a = true → a < c.pixSize
  index : ∀ a v, m.read a = some v → v.toNat < 16

/-- Such a write keeps the pixel space in its form. -/
theorem pixelsFit_keptByPixelWrites (c : Config) : KeptByPixelWrites c (PixelsFit c) := by
  intro m a v ha hv h
  refine ⟨Memory.wf_write h.wf a v, fun b hb => ?range, fun b u hb => ?index⟩
  case range =>
    rw [Memory.written_write, Bool.or_eq_true, decide_eq_true_eq] at hb
    rcases hb with rfl | hb
    · exact ha
    · exact h.range b hb
  case index =>
    rw [Memory.read_write] at hb
    split_ifs at hb
    · cases hb
      exact hv
    · exact h.index b u hb

/-- RASTER_CELL past its range check writes inside the pixel space (40_glyph_rasterizer R111). -/
theorem raster_lt_pixSize {s : State} (h : rasterLast s < s.cfg.pixSize) (x y : Nat) (hx : x < s.cfg.cellW)
    (hy : y < s.cfg.cellH) : s.rasterBase + y * s.rasterStride + x < s.cfg.pixSize := by
  have hrow : y * s.rasterStride ≤ (s.cfg.cellH - 1) * s.rasterStride := Nat.mul_le_mul_right _ (by omega)
  unfold rasterLast at h
  omega

/-! ### The frame builder writes every pixel -/

/-- A fold establishes `P` where one element of the list establishes it and every element keeps it. -/
theorem foldl_of_mem {α β : Type} {P : β → Prop} {f : β → α → β} {l : List α} {x : α} (hx : x ∈ l)
    (est : ∀ m, P (f m x)) (keep : ∀ m, P m → ∀ y ∈ l, P (f m y)) (m : β) : P (l.foldl f m) := by
  obtain ⟨before, rest, rfl⟩ := List.append_of_mem hx
  rw [List.foldl_append, List.foldl_cons]
  exact List.foldlRecOn _ _ (est _) fun m hm y hy => keep m hm y (by simp [hy])

/-- A written pixel stays written. -/
theorem written_keptByPixelWrites (c : Config) (a : Nat) : KeptByPixelWrites c (fun m => m.written a = true) := by
  intro m b v _ _ h
  simp [Memory.written_write, h]

/-- The pixel loop writes its footprint where the rows do not overlap (40_glyph_rasterizer R112). -/
theorem rasterInto_written {c : Config} {base stride x y : Nat} (hx : x < c.cellW) (hy : y < c.cellH)
    (hs : c.cellW ≤ stride) (cell : CellWord) (sup : Bool) (m : Memory 8) :
    Memory.written (rasterInto c base stride cell sup m) (base + y * stride + x) = true :=
  (Memory.written_iff _ _).2 ⟨_, rasterInto_read_of_stride hx hy hs m⟩

/-- The grid iterator writes a cell's pixels in both images (41_frame_builder R130): image S after image V. -/
theorem buildCell_written {c : Config} {row col base x y : Nat} (hrow : row < c.rows) (hcol : col < c.cols)
    (hx : x < c.cellW) (hy : y < c.cellH)
    (hbase : base = cellOrigin c row col ∨ base = c.img + cellOrigin c row col)
    (g : Nat → CellWord) (m : Memory 8) :
    Memory.written (buildCell c g row col m) (base + y * c.imgStride + x) = true := by
  have hs : c.cellW ≤ c.imgStride := Nat.le_mul_of_pos_left _ (Nat.zero_lt_of_lt hcol)
  rcases hbase with rfl | rfl
  · exact (written_keptByPixelWrites c _).after_rasterInto (cell_lt_pixSize hrow hcol (.inr rfl)) _ _
      (rasterInto_written hx hy hs _ _ _)
  · exact rasterInto_written hx hy hs _ _ _

/-- What one cell establishes, and every write keeps, holds after the grid iterator. -/
theorem KeptByPixelWrites.after_buildImages_of_cell {c : Config} {P : Memory 8 → Prop} (hP : KeptByPixelWrites c P)
    {g : Nat → CellWord} {row col : Nat} (hrow : row < c.rows) (hcol : col < c.cols)
    (est : ∀ m, P (buildCell c g row col m)) (m : Memory 8) : P (buildImages c g m) :=
  foldl_of_mem (List.mem_range.2 hrow)
    (foldl_of_mem (List.mem_range.2 hcol) est fun _ hm _ hcol' => hP.after_buildCell g hrow (List.mem_range.1 hcol') hm)
    (fun _ hm _ hrow' => hP.after_buildRow g (List.mem_range.1 hrow') hm) m

/-- After the grid iterator every pixel of the pixel space is written (41_frame_builder R133): the cell that owns it writes
it. -/
theorem buildImages_written {c : Config} {a : Nat} (ha : a < c.pixSize) (g : Nat → CellWord) (m : Memory 8) :
    Memory.written (buildImages c g m) a = true := by
  obtain ⟨row, hrow, col, hcol, x, hx, y, hy, base, hbase, rfl⟩ := exists_cell_of_lt_pixSize ha
  exact (written_keptByPixelWrites c _).after_buildImages_of_cell hrow hcol
    (buildCell_written hrow hcol hx hy hbase g) m

/-! ### The register invariants (10_state R46) -/

/-- The register invariants speak of the STATUS fields and ERR_CMD only. -/
theorem State.StatusInv.of_eq {s t : State} (h : s.StatusInv) (hpend : t.pend = s.pend := by simp)
    (hvalid : t.framesValid = s.framesValid := by simp) (herr : t.err = s.err := by simp)
    (hcode : t.errCode = s.errCode := by simp) (hcmd : t.errCmd = s.errCmd := by simp)
    (harmed : t.armed = s.armed := by simp) (hphase : t.phase = s.phase := by simp)
    (hbusy : t.busy = s.busy := by simp) : t.StatusInv where
  pend_valid := by rw [hpend, hvalid]; exact h.pend_valid
  err_code := by rw [herr, hcode]; exact h.err_code
  err_cmd := by rw [herr, hcmd]; exact h.err_cmd
  armed_phase := by rw [harmed, hphase]; exact h.armed_phase
  not_busy := by rw [hbusy]; exact h.not_busy

/-- Error entry keeps ERR and ERR_CODE in step: the code entered is an error's, and so is a first error's that is kept. -/
theorem State.StatusInv.raiseError {s : State} (h : s.StatusInv) {code : ErrCode} (hc : code ≠ .none) (w : Word) :
    (State.raiseError code w s).StatusInv where
  pend_valid := h.pend_valid
  err_code := by
    by_cases he : s.err = true
    · have hkept : s.errCode ≠ .none := fun hnone => by simp [h.err_code.2 hnone] at he
      simp [he, hkept]
    · simp [he, hc]
  err_cmd := nofun
  armed_phase := h.armed_phase
  not_busy := h.not_busy

/-- A flip happens only while armed, and requests a presentation only while the frames are valid. -/
theorem State.StatusInv.flip {s : State} (h : s.StatusInv) (ha : s.armed = true) :
    s.flip.requestIfValid.StatusInv where
  pend_valid := by simpa [or_imp] using h.pend_valid
  err_code := by simpa using h.err_code
  err_cmd := by simpa using h.err_cmd
  armed_phase := by simp [ha]
  not_busy := by simpa using h.not_busy

/-- Every instruction keeps the register invariants. -/
theorem Effect.statusInv {i : Instr} {s t : State} (he : Effect i s t) (h : s.StatusInv) : t.StatusInv := by
  cases he with
  | unchanged => exact h
  | error _ w hc _ => exact h.raiseError hc w
  | ack => exact { h with pend_valid := nofun }
  | build => exact { h with pend_valid := fun _ => rfl }
  | start => exact { h with armed_phase := nofun }
  | flip _ ha => exact h.flip ha
  | store | read | readUnwritten | gridWrite | raster | incomplete => exact h.of_eq

/-- The reset input establishes the register invariants in any state (10_state R45). -/
theorem State.applyReset_statusInv (s : State) : s.applyReset.StatusInv where
  pend_valid := nofun
  err_code := ⟨fun _ => rfl, fun _ => rfl⟩
  err_cmd _ := rfl
  armed_phase _ := rfl
  not_busy := rfl

/-! ### The memory invariants -/

theorem State.MemoryInv.pixelsFit {s : State} (h : s.MemoryInv) : PixelsFit s.cfg s.pix :=
  ⟨h.pix_wf, h.pix_range, h.pix_index⟩

/-- The memory invariants speak of the parameters, the two memories and FRAMES_VALID only. -/
theorem State.MemoryInv.of_eq {s t : State} (h : s.MemoryInv) (hcfg : t.cfg = s.cfg := by simp)
    (hgrid : t.grid = s.grid := by simp) (hpix : t.pix = s.pix := by simp)
    (hvalid : t.framesValid = s.framesValid := by simp) : t.MemoryInv where
  grid_wf := by rw [hgrid]; exact h.grid_wf
  pix_wf := by rw [hpix]; exact h.pix_wf
  grid_range := by rw [hgrid, hcfg]; exact h.grid_range
  pix_range := by rw [hpix, hcfg]; exact h.pix_range
  pix_index := by rw [hpix]; exact h.pix_index
  frames_full := by rw [hvalid, hpix, hcfg]; exact h.frames_full

/-- The pixels may become any that fit, as long as valid frames are complete. -/
theorem State.MemoryInv.withPix {s t : State} (h : s.MemoryInv) (hfit : PixelsFit s.cfg t.pix)
    (hfull : t.framesValid = true → ∀ a, a < s.cfg.pixSize → t.pix.written a = true)
    (hcfg : t.cfg = s.cfg := by simp) (hgrid : t.grid = s.grid := by simp) : t.MemoryInv where
  grid_wf := by rw [hgrid]; exact h.grid_wf
  pix_wf := hfit.wf
  grid_range := by rw [hgrid, hcfg]; exact h.grid_range
  pix_range := by rw [hcfg]; exact hfit.range
  pix_index := hfit.index
  frames_full := by rw [hcfg]; exact hfull

/-- GRID_WR in range keeps the memory invariants (43_host_interface R185). -/
theorem State.MemoryInv.writeGrid {s : State} (h : s.MemoryInv) {i : Nat} (hi : i < s.cfg.cells) (data : CellWord) :
    State.MemoryInv { s with grid := s.grid.write i data } :=
  { h with
    grid_wf := Memory.wf_write h.grid_wf i data
    grid_range := fun j hj => by
      rw [Memory.written_write, Bool.or_eq_true, decide_eq_true_eq] at hj
      rcases hj with rfl | hj
      · exact hi
      · exact h.grid_range j hj }

/-- Every instruction keeps the memory invariants. -/
theorem Effect.memoryInv {i : Instr} {s t : State} (he : Effect i s t) (h : s.MemoryInv) : t.MemoryInv := by
  have hkeep := pixelsFit_keptByPixelWrites s.cfg
  cases he with
  | unchanged => exact h
  | gridWrite _ data _ hi => exact h.writeGrid hi data
  | raster sup hv hl =>
    refine h.withPix (hkeep.after_rasterInto (raster_lt_pixSize hl) _ _ h.pixelsFit) fun hv' => ?_
    exact absurd (hv'.symm.trans hv) (by decide)
  | build =>
    exact h.withPix (hkeep.after_buildImages _ h.pixelsFit) fun _ a ha => buildImages_written ha _ _
  | error | store | read | readUnwritten | ack | incomplete | start | flip => exact h.of_eq

/-- The reset input unwrites every pixel and takes the frames back, so it keeps the memory invariants (10_state R41). -/
theorem State.MemoryInv.applyReset {s : State} (h : s.MemoryInv) : s.applyReset.MemoryInv :=
  h.withPix ⟨Memory.wf_nil, nofun, nofun⟩ nofun

/-! ### The invariant of the machine -/

/-- Settles O50: power-up has the registers of a reset state and two empty memories. -/
theorem invariantHoldsAtPowerUp : Obligations.InvariantHoldsAtPowerUp where
  status := (State.applyReset_statusInv State.reset).of_eq rfl rfl rfl rfl rfl rfl rfl rfl
  memory := ⟨Memory.wf_nil, Memory.wf_nil, nofun, nofun, nofun, nofun⟩

/-- Settles O51: by cases on what a step can do, then on the instruction's effect. -/
theorem everyStepKeepsTheInvariant : Obligations.EveryStepKeepsTheInvariant := by
  intro s t ⟨hstatus, hmemory⟩ hstep
  have hstatus' : s.dequeue.StatusInv := hstatus.of_eq
  have hmemory' : s.dequeue.MemoryInv := hmemory.of_eq
  rcases step_cases hstep with rfl | rfl | rfl | ⟨i, hexec⟩
  · exact ⟨hstatus, hmemory⟩
  · exact ⟨State.applyReset_statusInv _, hmemory'.applyReset⟩
  · exact ⟨hstatus'.of_eq, hmemory'.of_eq⟩
  · exact ⟨(exec_effect hexec).statusInv hstatus', (exec_effect hexec).memoryInv hmemory'⟩

end Sys2Proof.Machine
end

section
/-! What no step and no instruction changes (10_state R28, R36 to R44), and the register that reports the blink period. -/

namespace Sys2Proof.Machine

/-! ### The parameters, the marks and the trace -/

/-- No instruction changes the parameters (10_state R36 to R39). -/
theorem Effect.cfg_eq {i : Instr} {s t : State} (he : Effect i s t) : t.cfg = s.cfg := by
  cases he <;> simp

/-- Settles O52: no instruction, no reset and no turned-away transaction writes the parameters. -/
theorem noStepChangesTheConstants : Obligations.NoStepChangesTheConstants := by
  intro s t hstep
  rcases step_cases hstep with rfl | rfl | rfl | ⟨i, hexec⟩
  · rfl
  · simp
  · simp
  · simpa using (exec_effect hexec).cfg_eq

/-- No instruction clears the fault mark (10_state R44). -/
theorem Effect.faultMark_mono {i : Instr} {s t : State} (he : Effect i s t) (h : s.faultMark = true) :
    t.faultMark = true := by
  cases he <;> simp [h]

/-- No instruction touches the refusal mark: only a turned-away transaction sets it (10_state R44). -/
theorem Effect.refusalMark_eq {i : Instr} {s t : State} (he : Effect i s t) : t.refusalMark = s.refusalMark := by
  cases he <;> simp

/-- An instruction leaves the event trace or appends one event: at publish or at a flip (42_blink_scheduler R161). -/
theorem Effect.presents_isPrefix {i : Instr} {s t : State} (he : Effect i s t) : s.presents <+: t.presents := by
  cases he with
  | build => simp
  | flip =>
    rw [State.requestIfValid_presents]
    split <;> simp
  | unchanged | error | store | read | readUnwritten | ack | gridWrite | raster | incomplete | start => simp

/-- Settles O53: the reset input keeps the marks and the trace, a turned-away transaction sets the refusal mark, and an
instruction only adds. -/
theorem marksAndTraceOnlyGrow : Obligations.MarksAndTraceOnlyGrow := by
  intro s t hstep
  rcases step_cases hstep with rfl | rfl | rfl | ⟨i, hexec⟩
  · exact ⟨id, id, [], by simp⟩
  · exact ⟨id, id, [], by simp⟩
  · exact ⟨id, fun _ => rfl, [], by simp⟩
  · have he := exec_effect hexec
    obtain ⟨l, hl⟩ := he.presents_isPrefix
    exact ⟨he.faultMark_mono, fun h => he.refusalMark_eq.trans h, l, hl.symm⟩

/-! ### The published images and the grid -/

/-- Settles O54: the two commands that write pixels, RASTER_CELL and BUILD_FRAMES, do so only while FRAMES_VALID is 0. -/
theorem publishedImagesAreReadOnly : Obligations.PublishedImagesAreReadOnly := by
  intro i s t hexec hv
  cases exec_effect hexec with
  | raster _ hv' => exact absurd (hv.symm.trans hv') (by decide)
  | build hv' => exact absurd (hv.symm.trans hv') (by decide)
  | unchanged | error | store | read | readUnwritten | ack | gridWrite | incomplete | start | flip => simp [hv]

/-- Settles O56: the only effect that changes the grid is a GRID_WR in range, which leaves the pixels. -/
theorem onlyGridWritesChangeTheGrid : Obligations.OnlyGridWritesChangeTheGrid := by
  intro i s t hexec hne
  cases exec_effect hexec with
  | gridWrite idx data hi => exact ⟨⟨idx, data, hi⟩, rfl⟩
  | unchanged | error | store | read | readUnwritten | ack | raster | incomplete | build | start | flip => simp at hne

/-! ### PERIOD -/

/-- PERIOD holds the blink period of a legal configuration, which fits in 32 bits (10_state R36). -/
theorem periodWord_toNat {c : Config} (h : c.legal = true) : c.periodWord.toNat = c.period := by
  obtain ⟨-, -, -, -, -, ⟨-, hp⟩, -, -⟩ := (Config.legal_iff c).mp h
  exact Nat.mod_eq_of_lt hp

/-- A read of the PERIOD register returns it and changes nothing else (43_host_interface R183). -/
theorem exec_regRd_period (s : State) : exec (.regRd 0x01C#12) s = .next (s.respond (.reg s.cfg.periodWord)) := rfl

/-- Settles O19: the read returns PERIOD, which holds the parameter. -/
theorem periodReportsTheParameter : Obligations.PeriodReportsTheParameter :=
  fun s hlegal => ⟨s.cfg.periodWord, exec_regRd_period s, periodWord_toNat hlegal⟩

end Sys2Proof.Machine
end

section
/-! The memory spaces as the ports show them (20_memory): what a read of each space answers, that reads are idempotent, the
presentation view of the pixels, the offsets the REG port carries, the host's bytes of a cell and the glyph table. -/

namespace Sys2Proof.Machine

/-! ### The offsets the REG port carries -/

/-- An offset is misaligned exactly when its bits 1:0 are not 0 (20_memory R51). -/
theorem aligned_eq_false_iff {off : Offset} : Offset.aligned off = false ↔ off.extractLsb' 0 2 ≠ 0#2 :=
  beq_eq_false_iff_ne

/-- The decoder rejects a write at a misaligned offset (log 4). -/
theorem decode_regWr_of_misaligned {off : Offset} (h : Offset.aligned off = false) (data : Word) :
    decode (.regWr off data) = .error (.misalignedOffset off) := by
  simp [decode, h]

/-- The decoder rejects a read at a misaligned offset (log 4). -/
theorem decode_regRd_of_misaligned {off : Offset} (h : Offset.aligned off = false) :
    decode (.regRd off) = .error (.misalignedOffset off) := by
  simp [decode, h]

/-- REG_WR refuses a misaligned offset (log 4). -/
theorem exec_regWr_of_misaligned {off : Offset} (h : Offset.aligned off = false) (data : Word) (s : State) :
    exec (.regWr off data) s = .refused (.misalignedOffset off) :=
  if_pos h

/-- REG_RD refuses a misaligned offset (log 4). -/
theorem exec_regRd_of_misaligned {off : Offset} (h : Offset.aligned off = false) (s : State) :
    exec (.regRd off) s = .refused (.misalignedOffset off) :=
  if_pos h

/-- Settles O5: the decoder and the two register transactions test the same bits. -/
theorem misalignedOffsetRejected : Obligations.MisalignedOffsetRejected := by
  intro off data s hbits
  have h : Offset.aligned off = false := aligned_eq_false_iff.mpr hbits
  exact ⟨decode_regWr_of_misaligned h data, decode_regRd_of_misaligned h, exec_regWr_of_misaligned h data s,
    exec_regRd_of_misaligned h s⟩

/-! ### What a read answers -/

/-- A read answers one value and sets the fault mark exactly when the element was never written (10_state R44). -/
theorem State.respondRead_eq {w : Nat} (f : BitVec w → Response) (v : Option (BitVec w)) (free : BitVec w) (s : State) :
    s.respondRead f v free =
      { s with responses := s.responses ++ [f (v.getD free)], faultMark := v.isNone || s.faultMark } := by
  cases v <;> rfl

/-- REG_RD at an aligned offset (43_host_interface R183). -/
theorem exec_regRd_of_aligned {off : Offset} (h : Offset.aligned off = true) (s : State) :
    exec (.regRd off) s = .next (s.respond (.reg (s.readOffset off))) :=
  if_neg (by simp [h])

/-- GRID_RD in range (43_host_interface R188). -/
theorem exec_gridRd_of_lt {idx : Word} {s : State} (h : idx.toNat < s.cfg.cells) :
    exec (.gridRd idx) s = .next (s.respondRead .grid (s.grid.read idx.toNat) (Config.freeGridWord idx.toNat)) :=
  if_pos h

/-- GRID_RD out of range answers 0 (43_host_interface R188). -/
theorem exec_gridRd_of_not_lt {idx : Word} {s : State} (h : ¬ idx.toNat < s.cfg.cells) :
    exec (.gridRd idx) s = .next (s.respond (.grid 0x0000#16)) :=
  if_neg h

/-- PIX_RD in range (43_host_interface R186). -/
theorem exec_pixRd_of_lt {a : Word} {s : State} (h : a.toNat < s.cfg.pixSize) :
    exec (.pixRd a) s = .next (s.respondRead .pix (s.pix.read a.toNat) (s.unwrittenPixel a.toNat)) :=
  if_pos h

/-- PIX_RD out of range answers 0 (43_host_interface R186). -/
theorem exec_pixRd_of_not_lt {a : Word} {s : State} (h : ¬ a.toNat < s.cfg.pixSize) :
    exec (.pixRd a) s = .next (s.respond (.pix 0x00#8)) :=
  if_neg h

/-- PRES_RD in range (43_host_interface R187). -/
theorem exec_presRd_of_lt {p : Word} {s : State} (h : p.toNat < s.cfg.img) :
    exec (.presRd p) s = .next (s.respondRead .pres (s.pix.read (imageBase s.cfg s.frameSel + p.toNat))
      (s.unwrittenPixel (imageBase s.cfg s.frameSel + p.toNat))) :=
  if_pos h

/-- PRES_RD out of range answers 0 (43_host_interface R187). -/
theorem exec_presRd_of_not_lt {p : Word} {s : State} (h : ¬ p.toNat < s.cfg.img) :
    exec (.presRd p) s = .next (s.respond (.pres 0x00#8)) :=
  if_neg h

/-! ### Reads are idempotent (20_memory R59) -/

/-- The state with other responses and another fault mark. -/
def State.withAnswers (s : State) (l : List Response) (mark : Bool) : State :=
  { s with responses := l, faultMark := mark }

/-- The instruction `i` only answers in the state `s`: it returns one value and perhaps sets the fault mark, and which value
and whether it sets the mark do not depend on the responses or the fault mark so far. -/
def AnswersOnly (i : Instr) (s : State) : Prop :=
  ∃ (r : Response) (unwritten : Bool), ∀ (l : List Response) (mark : Bool),
    exec i (s.withAnswers l mark) = .next (s.withAnswers (l ++ [r]) (unwritten || mark))

/-- What only answers changes nothing else, and answers the same again. -/
theorem AnswersOnly.idempotent {i : Instr} {s t : State} (h : AnswersOnly i s) (hexec : exec i s = .next t) :
    ∃ r, t = { s with responses := s.responses ++ [r], faultMark := t.faultMark } ∧
      exec i t = .next { t with responses := t.responses ++ [r] } := by
  obtain ⟨r, unwritten, hanswer⟩ := h
  obtain rfl := Host.Outcome.next.inj (hexec.symm.trans (hanswer s.responses s.faultMark))
  refine ⟨r, rfl, ?_⟩
  have hagain := hanswer (s.responses ++ [r]) (unwritten || s.faultMark)
  rwa [Bool.or_self_left] at hagain

/-- An instruction that returns one value, whatever was answered before, only answers. -/
theorem AnswersOnly.of_respond {i : Instr} {s : State} (r : Response)
    (h : ∀ l mark, exec i (s.withAnswers l mark) = .next ((s.withAnswers l mark).respond r)) : AnswersOnly i s :=
  ⟨r, false, h⟩

/-- An instruction that reads one element, whatever was answered before, only answers. -/
theorem AnswersOnly.of_respondRead {i : Instr} {s : State} {w : Nat} (f : BitVec w → Response) (v : Option (BitVec w))
    (free : BitVec w)
    (h : ∀ l mark, exec i (s.withAnswers l mark) = .next ((s.withAnswers l mark).respondRead f v free)) :
    AnswersOnly i s :=
  ⟨f (v.getD free), v.isNone, fun l mark => (h l mark).trans (congrArg _ (State.respondRead_eq f v free _))⟩

theorem answersOnly_regRd {off : Offset} (h : Offset.aligned off = true) (s : State) : AnswersOnly (.regRd off) s :=
  .of_respond (.reg (s.readOffset off)) fun l mark => exec_regRd_of_aligned h (s.withAnswers l mark)

theorem answersOnly_gridRd (idx : Word) (s : State) : AnswersOnly (.gridRd idx) s := by
  by_cases h : idx.toNat < s.cfg.cells
  · exact .of_respondRead _ (s.grid.read idx.toNat) _ fun l mark => exec_gridRd_of_lt (s := s.withAnswers l mark) h
  · exact .of_respond _ fun l mark => exec_gridRd_of_not_lt (s := s.withAnswers l mark) h

theorem answersOnly_pixRd (a : Word) (s : State) : AnswersOnly (.pixRd a) s := by
  by_cases h : a.toNat < s.cfg.pixSize
  · exact .of_respondRead _ (s.pix.read a.toNat) (s.unwrittenPixel a.toNat)
      fun l mark => exec_pixRd_of_lt (s := s.withAnswers l mark) h
  · exact .of_respond _ fun l mark => exec_pixRd_of_not_lt (s := s.withAnswers l mark) h

theorem answersOnly_presRd (p : Word) (s : State) : AnswersOnly (.presRd p) s := by
  by_cases h : p.toNat < s.cfg.img
  · exact .of_respondRead _ (s.pix.read (imageBase s.cfg s.frameSel + p.toNat))
      (s.unwrittenPixel (imageBase s.cfg s.frameSel + p.toNat))
      fun l mark => exec_presRd_of_lt (s := s.withAnswers l mark) h
  · exact .of_respond _ fun l mark => exec_presRd_of_not_lt (s := s.withAnswers l mark) h

/-- Settles O26: each read only answers, but for REG_RD at a misaligned offset, which has no next state. -/
theorem readsAreIdempotent : Obligations.ReadsAreIdempotent := by
  intro i s t hread hexec
  refine AnswersOnly.idempotent ?_ hexec
  rcases hread with ⟨off, rfl⟩ | ⟨idx, rfl⟩ | ⟨a, rfl⟩ | ⟨p, rfl⟩
  · cases halign : Offset.aligned off with
    | true => exact answersOnly_regRd halign s
    | false => exact absurd ((exec_regRd_of_misaligned halign s).symm.trans hexec) (by simp)
  · exact answersOnly_gridRd idx s
  · exact answersOnly_pixRd a s
  · exact answersOnly_presRd p s

/-! ### The presentation view (20_memory R56) -/

/-- The base of the active image: image V at 0, image S at IMG (42_blink_scheduler R158). -/
theorem imageBase_eq (c : Config) (phase : Phase) : imageBase c phase = if phase = .suppressed then c.img else 0 := by
  cases phase <;> rfl

/-- Either image lies inside the pixel space. -/
theorem imageBase_add_lt_pixSize {c : Config} {n : Nat} (h : n < c.img) (phase : Phase) :
    imageBase c phase + n < c.pixSize := by
  cases phase <;> simp only [imageBase, Config.pixSize] <;> omega

/-- Every pixel address of a legal configuration is a 32-bit word. -/
theorem toNat_ofNat_of_lt_pixSize {c : Config} (hlegal : c.legal = true) {a : Nat} (h : a < c.pixSize) :
    (BitVec.ofNat 32 a).toNat = a := by
  obtain ⟨-, -, -, -, hpix, -⟩ := (Config.legal_iff c).mp hlegal
  exact Nat.mod_eq_of_lt (h.trans_le hpix)

/-- Settles O27: both ports read the pixel at the active image's base plus the presentation address, which is inside the
pixel space and fits a PIX_RD address. -/
theorem presentationIsAViewOfThePixels : Obligations.PresentationIsAViewOfThePixels := by
  intro s p hlegal hp
  rw [← imageBase_eq]
  have hlt : imageBase s.cfg s.phase + p.toNat < s.cfg.pixSize := imageBase_add_lt_pixSize hp s.phase
  have haddr := toNat_ofNat_of_lt_pixSize hlegal hlt
  refine ⟨_, _, (exec_presRd_of_lt hp).trans (congrArg _ (State.respondRead_eq ..)), ?_⟩
  rw [exec_pixRd_of_lt (haddr.trans_lt hlt), haddr, State.respondRead_eq]
  rfl

/-! ### The host's bytes and the glyph table -/

/-- Settles O35: the two bytes are bits 7:0 and bits 15:8 of the cell. -/
theorem hostBytesHoldTheCell : Obligations.HostBytesHoldTheCell := by
  refine fun cell => ⟨rfl, ?_⟩
  unfold cellOfHostBytes
  rw [BitVec.extractLsb'_append_extractLsb'_eq_extractLsb' (by rfl)]
  simp

/-- Settles O36: the entry is inside the table, so the lookup does not fall back to its default. -/
theorem glyphRowIsItsTableEntry : Obligations.GlyphRowIsItsTableEntry := by
  intro c l hrom hlen code y hy
  have hlt : code.toNat * c.cellH + y < l.length := by
    rw [hlen]
    exact row_col_lt_mul code.isLt hy
  simp [Config.glyphRow, hrom, hlt]

end Sys2Proof.Machine
end

section
/-! The encoding (30_encoding): the seven command words and the decoder over every transaction, what a write to CMD and to
an offset of the register map does, and the layouts of STATUS, GEOM and the PALETTE registers. -/

namespace Sys2Proof.Machine

/-! ### The seven command words (30_encoding R76, R78) -/

/-- A command's word is legal. -/
theorem word_mem_legalCommandWords (c : Command) : c.word ∈ legalCommandWords := by
  cases c with
  | rasterCell sup => cases sup <;> decide
  | nop | buildFrames | blinkStart | blinkCheck | ackPresent => decide

/-- The legal words are the words of the commands. -/
theorem mem_legalCommandWords_iff {w : Word} : w ∈ legalCommandWords ↔ ∃ c : Command, w = c.word := by
  refine ⟨fun h => ?_, ?_⟩
  · simp only [legalCommandWords, List.mem_cons, List.not_mem_nil, or_false] at h
    rcases h with h | h | h | h | h | h | h
    · exact ⟨.nop, h⟩
    · exact ⟨.rasterCell false, h⟩
    · exact ⟨.rasterCell true, h⟩
    · exact ⟨.buildFrames, h⟩
    · exact ⟨.blinkStart, h⟩
    · exact ⟨.blinkCheck, h⟩
    · exact ⟨.ackPresent, h⟩
  · rintro ⟨c, rfl⟩
    exact word_mem_legalCommandWords c

/-- Command decode rejects every word but the legal ones (30_encoding R78). -/
theorem decodeCommand_of_not_mem {w : Word} (h : w ∉ legalCommandWords) : decodeCommand w = none := by
  cases hd : decodeCommand w with
  | none => rfl
  | some c => exact absurd (mem_legalCommandWords_iff.mpr ⟨c, word_of_decodeCommand hd⟩) h

/-! ### The decoder, transaction by transaction (30_encoding R81) -/

/-- A write of a command's word to CMD is that command. -/
theorem decode_regWr_word (c : Command) : decode (.regWr cmdOffset c.word) = .ok c.toInstr := by
  have ha : Offset.aligned cmdOffset = true := by decide
  simp [decode, ha, decodeCommand_word]

/-- Every other write at an aligned offset is a register write. -/
theorem decode_regWr_of_not_command {off : Offset} {data : Word} (ha : Offset.aligned off = true)
    (hn : ¬(off = cmdOffset ∧ data ∈ legalCommandWords)) : decode (.regWr off data) = .ok (.regWr off data) := by
  by_cases ho : off = cmdOffset
  · have hd : decodeCommand data = none := decodeCommand_of_not_mem fun hm => hn ⟨ho, hm⟩
    simp [decode, ha, hd]
  · simp [decode, ha, ho]

theorem decode_regRd_of_aligned {off : Offset} (ha : Offset.aligned off = true) : decode (.regRd off) = .ok (.regRd off) :=
  if_pos ha

/-! ### Encode and decode agree -/

theorem wellFormed_toInstr (c : Command) : c.toInstr.wellFormed = true := by
  cases c with
  | rasterCell sup => cases sup <;> rfl
  | nop | buildFrames | blinkStart | blinkCheck | ackPresent => rfl

/-- A register write is well formed where it is aligned and is no command. -/
theorem wellFormed_regWr_iff {off : Offset} {data : Word} :
    (Instr.regWr off data).wellFormed = true ↔
      Offset.aligned off = true ∧ ¬(off = cmdOffset ∧ data ∈ legalCommandWords) := by
  simp [Instr.wellFormed, -not_and, not_and_or]

theorem decode_encode_toInstr (c : Command) : decode (encode c.toInstr) = .ok c.toInstr := by
  rw [encode_toInstr, decode_regWr_word]

/-- Settles O1: a command is the write of its word to CMD, and a well-formed register write is no command. -/
theorem encodeThenDecode : Obligations.EncodeThenDecode := by
  intro i hwf
  cases i with
  | nop => exact decode_encode_toInstr .nop
  | rasterCell => exact decode_encode_toInstr (.rasterCell false)
  | rasterCellS => exact decode_encode_toInstr (.rasterCell true)
  | buildFrames => exact decode_encode_toInstr .buildFrames
  | blinkStart => exact decode_encode_toInstr .blinkStart
  | blinkCheck => exact decode_encode_toInstr .blinkCheck
  | ackPresent => exact decode_encode_toInstr .ackPresent
  | regWr off data =>
    obtain ⟨ha, hn⟩ := wellFormed_regWr_iff.mp hwf
    exact decode_regWr_of_not_command ha hn
  | regRd off => exact decode_regRd_of_aligned hwf
  | gridWr | gridRd | pixRd | presRd => rfl

/-- A register write is rejected where misaligned, a command where its word is legal, and else its own instruction. -/
theorem encode_of_decode_regWr {off : Offset} {data : Word} {i : Instr} (h : decode (.regWr off data) = .ok i) :
    encode i = .regWr off data ∧ i.wellFormed = true := by
  cases ha : Offset.aligned off with
  | false => simp [decode_regWr_of_misaligned ha] at h
  | true =>
    by_cases hc : off = cmdOffset ∧ data ∈ legalCommandWords
    · obtain ⟨rfl, hm⟩ := hc
      obtain ⟨c, rfl⟩ := mem_legalCommandWords_iff.mp hm
      obtain rfl := Except.ok.inj ((decode_regWr_word c).symm.trans h)
      exact ⟨encode_toInstr c, wellFormed_toInstr c⟩
    · obtain rfl := Except.ok.inj ((decode_regWr_of_not_command ha hc).symm.trans h)
      exact ⟨rfl, wellFormed_regWr_iff.mpr ⟨ha, hc⟩⟩

/-- A register read is rejected where misaligned and else its own instruction. -/
theorem encode_of_decode_regRd {off : Offset} {i : Instr} (h : decode (.regRd off) = .ok i) :
    encode i = .regRd off ∧ i.wellFormed = true := by
  cases ha : Offset.aligned off with
  | false => simp [decode_regRd_of_misaligned ha] at h
  | true =>
    obtain rfl := Except.ok.inj ((decode_regRd_of_aligned ha).symm.trans h)
    exact ⟨rfl, ha⟩

/-- Settles O2: by the form of the transaction; only the two register forms are not always their own instruction. -/
theorem decodeThenEncode : Obligations.DecodeThenEncode := by
  intro t i h
  cases t with
  | regWr off data => exact encode_of_decode_regWr h
  | regRd off => exact encode_of_decode_regRd h
  | gridWr | gridRd | pixRd | presRd =>
    cases h
    exact ⟨rfl, rfl⟩

/-! ### A write to CMD (30_encoding R78, R79) -/

/-- The command a word carries runs as the instruction of that command. -/
theorem runCommand_eq_exec (c : Command) (s : State) : runCommand c s = exec c.toInstr s := by
  cases c with
  | rasterCell sup => cases sup <;> rfl
  | nop | buildFrames | blinkStart | blinkCheck | ackPresent => rfl

/-- REG_WR to CMD executes the word. -/
theorem exec_regWr_cmd (w : Word) (s : State) : exec (.regWr cmdOffset w) s = runCommandWord w s := rfl

theorem exec_regWr_word (c : Command) (s : State) : exec (.regWr cmdOffset c.word) s = exec c.toInstr s := by
  rw [exec_regWr_cmd, runCommandWord, decodeCommand_word]
  exact runCommand_eq_exec c s

theorem exec_regWr_of_not_mem {w : Word} (h : w ∉ legalCommandWords) (s : State) :
    exec (.regWr cmdOffset w) s = .next (s.raiseError .illegalCmd w) := by
  rw [exec_regWr_cmd, runCommandWord, decodeCommand_of_not_mem h]

/-- Settles O4: each of the seven words is the word of its command, and any other word is not legal. -/
theorem cmdWriteRunsTheSevenLegalWords : Obligations.CmdWriteRunsTheSevenLegalWords := by
  intro w s
  split_ifs with h0 h1 h11 h2 h3 h4 h5
  · subst h0; exact exec_regWr_word .nop s
  · subst h1; exact exec_regWr_word (.rasterCell false) s
  · subst h11; exact exec_regWr_word (.rasterCell true) s
  · subst h2; exact exec_regWr_word .buildFrames s
  · subst h3; exact exec_regWr_word .blinkStart s
  · subst h4; exact exec_regWr_word .blinkCheck s
  · subst h5; exact exec_regWr_word .ackPresent s
  · exact exec_regWr_of_not_mem (by simp [legalCommandWords, h0, h1, h11, h2, h3, h4, h5]) s

/-! ### The register map (30_encoding R82, R85) -/

/-- The register map has each register at its offset. -/
theorem regOfOffset_offset (r : Reg) : regOfOffset r.offset = some r := by
  cases r with
  | palette i => decide +revert
  | cmd | status | cell | dstBase | dstStride | now | deadline | period | geom | errCmd => rfl

/-- An aligned offset is a multiple of 4 (20_memory R51). -/
theorem toNat_mod_four_of_aligned {off : Offset} (ha : Offset.aligned off = true) : off.toNat % 4 = 0 := by
  simpa [Offset.aligned, BitVec.toNat_eq] using ha

/-- An aligned offset of the palette is the offset of the entry its word has. -/
theorem eq_offset_palette {off : Offset} (ha : Offset.aligned off = true) (hlo : 0x040#12 ≤ off) (hhi : off < 0x080#12) :
    off = (Reg.palette (Fin.ofNat 16 ((off.toNat - 0x040) / 4))).offset := by
  have hmod := toNat_mod_four_of_aligned ha
  rw [BitVec.le_def] at hlo
  rw [BitVec.lt_def] at hhi
  simp only [BitVec.toNat_ofNat] at hlo hhi
  apply BitVec.eq_of_toNat_eq
  simp only [Reg.offset, Fin.val_ofNat, BitVec.toNat_ofNat]
  omega

/-- An aligned offset of the register map is the offset of the register it names. -/
theorem eq_offset_of_regOfOffset {off : Offset} {r : Reg} (ha : Offset.aligned off = true)
    (h : regOfOffset off = some r) : off = r.offset := by
  unfold regOfOffset at h
  iterate 10
    obtain ⟨ho, ⟨⟩⟩ | ⟨-, h⟩ := ite_eq_iff.mp h
    · exact ho
  obtain ⟨⟨hlo, hhi⟩, ⟨⟩⟩ | ⟨-, h⟩ := ite_eq_iff.mp h
  · exact eq_offset_palette ha hlo hhi
  · cases h

/-- CMD and the four operand registers take a write; a write to any other register is ignored (43_host_interface R182). -/
theorem State.storeReg_of_readOnly {r : Reg} (hcell : r ≠ .cell) (hbase : r ≠ .dstBase) (hstride : r ≠ .dstStride)
    (hnow : r ≠ .now) (data : Word) (s : State) : s.storeReg r data = s := by
  cases r with
  | cell | dstBase | dstStride | now => contradiction
  | cmd | status | deadline | period | geom | errCmd | palette => rfl

/-- REG_WR to a mapped register other than CMD stores into it. -/
theorem exec_regWr_of_reg {off : Offset} {r : Reg} (ha : Offset.aligned off = true) (hr : regOfOffset off = some r)
    (hcmd : r ≠ .cmd) (data : Word) (s : State) : exec (.regWr off data) s = .next (s.storeReg r data) := by
  cases r with
  | cmd => contradiction
  | status | cell | dstBase | dstStride | now | deadline | period | geom | errCmd | palette =>
    simp [exec, execRegWr, ha, hr]

/-- REG_WR to an unmapped offset is ignored. -/
theorem exec_regWr_of_unmapped {off : Offset} (ha : Offset.aligned off = true) (hr : regOfOffset off = none)
    (data : Word) (s : State) : exec (.regWr off data) s = .next s := by
  simp [exec, execRegWr, ha, hr]

/-- Settles O14: the register at the offset, if any, is none of the five that take a write, each of which has its own
offset. -/
theorem regWriteElsewhereIgnored : Obligations.RegWriteElsewhereIgnored := by
  intro off data s hbits hcmd hcell hbase hstride hnow
  have ha : Offset.aligned off = true := beq_iff_eq.mpr hbits
  cases hr : regOfOffset off with
  | none => exact exec_regWr_of_unmapped ha hr data s
  | some r =>
    have ho : off = r.offset := eq_offset_of_regOfOffset ha hr
    have hne {r' : Reg} (h : off ≠ r'.offset) : r ≠ r' := fun he => h (he ▸ ho)
    rw [exec_regWr_of_reg ha hr (hne hcmd)]
    rw [State.storeReg_of_readOnly (hne hcell) (hne hbase) (hne hstride) (hne hnow)]

/-! ### Fields of a register word (30_encoding R73, R83) -/

/-- The four bytes of a word. -/
theorem extractLsb'_bytes (b3 b2 b1 b0 : BitVec 8) :
    (b3 ++ b2 ++ b1 ++ b0).extractLsb' 0 8 = b0 ∧ (b3 ++ b2 ++ b1 ++ b0).extractLsb' 8 8 = b1 ∧
    (b3 ++ b2 ++ b1 ++ b0).extractLsb' 16 8 = b2 ∧ (b3 ++ b2 ++ b1 ++ b0).extractLsb' 24 8 = b3 := by
  have above {start : Nat} (h : 8 ≤ start) :
      (b3 ++ b2 ++ b1 ++ b0).extractLsb' start 8 = (b3 ++ b2 ++ b1).extractLsb' (start - 8) 8 :=
    BitVec.extractLsb'_append_eq_of_le h
  refine ⟨BitVec.extractLsb'_append_eq_right, ?_, ?_, ?_⟩
  · exact (above (by decide)).trans BitVec.extractLsb'_append_eq_right
  · exact (above (by decide)).trans
      ((BitVec.extractLsb'_append_eq_of_le (by decide)).trans BitVec.extractLsb'_append_eq_right)
  · exact (above (by decide)).trans
      ((BitVec.extractLsb'_append_eq_of_le (by decide)).trans BitVec.extractLsb'_append_eq_left)

/-- A parameter of at most 255 fits a byte of GEOM. -/
theorem toNat_byte_of_le {n : Nat} (h : n ≤ 255) : (BitVec.ofNat 8 n).toNat = n :=
  Nat.mod_eq_of_lt (Nat.lt_succ_of_le h)

/-- Settles O18: the bytes of GEOM hold the parameters, and the legal ranges fit a byte. -/
theorem geomBytesAreTheParameters : Obligations.GeomBytesAreTheParameters := by
  intro s hlegal
  obtain ⟨⟨-, hr⟩, ⟨-, hc⟩, ⟨-, hw⟩, ⟨-, hh⟩, -⟩ := (Config.legal_iff s.cfg).mp hlegal
  obtain ⟨hrows, hcols, hcellW, hcellH⟩ := extractLsb'_bytes (BitVec.ofNat 8 s.cfg.cellH) (BitVec.ofNat 8 s.cfg.cellW)
    (BitVec.ofNat 8 s.cfg.cols) (BitVec.ofNat 8 s.cfg.rows)
  rw [Config.geom, hrows, hcols, hcellW, hcellH]
  exact ⟨toNat_byte_of_le hr, toNat_byte_of_le hc, toNat_byte_of_le (hw.trans (by decide)), toNat_byte_of_le hh⟩

/-- An entry of a listed palette of full length is its list's (10_state R38). -/
theorem getElem?_eq_paletteEntry {c : Config} {l : List Rgb} (hl : c.palette = .entries l) (hlen : l.length = 16)
    (i : Fin 16) : l[i.val]? = some (c.paletteEntry i) := by
  simp [Config.paletteEntry, hl, hlen]

/-- Settles O20: the bytes of a PALETTE register are zero, red, green and blue. -/
theorem paletteRegisterLayout : Obligations.PaletteRegisterLayout := by
  intro c i
  obtain ⟨hblue, hgreen, hred, hzero⟩ :=
    extractLsb'_bytes 0#8 (c.paletteEntry i).red (c.paletteEntry i).green (c.paletteEntry i).blue
  exact ⟨hred, hgreen, hblue, hzero, fun l hl hlen => getElem?_eq_paletteEntry hl hlen i⟩

/-! ### STATUS (30_encoding R84) -/

/-- PHASE is 1 in the suppressed phase (10_state R30). -/
theorem Phase.bit_eq (p : Phase) : p.bit = decide (p = .suppressed) := by
  cases p <;> rfl

/-- A field above the lowest bit. -/
theorem extractLsb'_concat_succ {w : Nat} (x : BitVec w) (b : Bool) (start len : Nat) :
    (x.concat b).extractLsb' (start + 1) len = x.extractLsb' start len := by
  apply BitVec.eq_of_getLsbD_eq
  intro i hi
  have hi' : start + 1 + i = start + i + 1 := by omega
  simp only [BitVec.getLsbD_extractLsb', hi', BitVec.getLsbD_concat_succ]

/-- STATUS is the six flags, one bit each, below the error code and the reserved bits. -/
theorem statusWord_eq_concat (s : State) :
    s.statusWord = ((((((0#20 ++ s.errCode.number ++ 0#2).concat s.err).concat s.busy).concat s.pend).concat
      s.phase.bit).concat s.armed).concat s.framesValid := by
  simp only [State.statusWord, BitVec.append_ofBool]

/-- The fields of STATUS above the six flags. -/
theorem extractLsb'_statusWord (s : State) (start len : Nat) :
    s.statusWord.extractLsb' (start + 6) len = (0#20 ++ s.errCode.number ++ 0#2).extractLsb' start len := by
  simp only [statusWord_eq_concat, extractLsb'_concat_succ]

/-- Settles O16: the flags are the lowest bits, and the fields above them are two reserved ranges with the error code
between them. -/
theorem statusBitsAreLaidOut : Obligations.StatusBitsAreLaidOut := by
  intro s
  have hcode : s.statusWord.extractLsb' 8 4 = s.errCode.number :=
    (extractLsb'_statusWord s 2 4).trans
      ((BitVec.extractLsb'_append_eq_of_le (by decide)).trans BitVec.extractLsb'_append_eq_right)
  have hres : s.statusWord.extractLsb' 6 2 = 0#2 :=
    (extractLsb'_statusWord s 0 2).trans BitVec.extractLsb'_append_eq_right
  have hres' : s.statusWord.extractLsb' 12 20 = 0#20 :=
    (extractLsb'_statusWord s 6 20).trans
      ((BitVec.extractLsb'_append_eq_of_le (by decide)).trans BitVec.extractLsb'_append_eq_left)
  rw [hcode, hres, hres', ← Phase.bit_eq, statusWord_eq_concat]
  refine ⟨?valid, ?armed, ?phase, ?pend, ?busy, ?err, rfl, rfl, rfl⟩
  all_goals simp

/-! ### Sample words -/

/-- Settles O3: the words of four commands, a word of none, a command's word written elsewhere, and three offsets. -/
theorem sampleWordsDecode : Obligations.SampleWordsDecode :=
  ⟨decode_regWr_word (.rasterCell true), decode_regWr_word .buildFrames, decode_regWr_word .blinkCheck,
    decode_regWr_word .ackPresent, decode_regWr_of_not_command (by decide) (by decide),
    decode_regWr_of_not_command (by decide) (by decide), regOfOffset_offset .deadline, regOfOffset_offset (.palette 15),
    by decide⟩

end Sys2Proof.Machine
end

section
/-! The cell rasterizer (40_glyph_rasterizer): the fields of a cell, the pixel function and its properties, the three
outcomes of RASTER_CELL and RASTER_CELL.S, and what the pixel loop leaves at each address. -/

namespace Sys2Proof.Machine

/-! ### The fields of a cell (40_glyph_rasterizer R101) -/

/-- A field of `attrByte` is the field of the cell 8 bits up (30_encoding R70). -/
theorem extractLsb'_attrByte (cell : CellWord) {start len : Nat} (h : start + len ≤ 8) :
    (attrByte cell).extractLsb' start len = cell.extractLsb' (8 + start) len := by
  apply BitVec.eq_of_getLsbD_eq
  intro i hi
  have hi' : start + i < 8 := by omega
  simp [attrByte, hi', Nat.add_assoc]

/-- Settles O34: the fields of `attrByte` are fields of the cell, and its top bit is the cell's. -/
theorem cellFieldsAreTheirBits : Obligations.CellFieldsAreTheirBits := by
  refine fun cell => ⟨rfl, ?fg, ?bg, ?blink⟩
  case fg => exact extractLsb'_attrByte cell (by decide)
  case bg => exact extractLsb'_attrByte cell (by decide)
  case blink => simp [decodeCell, attrByte]

/-! ### The pixel function (40_glyph_rasterizer R102 to R106) -/

section
variable {c : Config} {cell : CellWord} {sup : Bool} {x y : Nat}

/-- A pixel whose glyph bit is 1, of a cell that is not blink-suppressed, is the foreground (R103). -/
theorem pixelOf_eq_fg (hbit : glyphBit c (decodeCell cell).code x y = true)
    (hshown : ¬((decodeCell cell).blink = true ∧ sup = true)) :
    pixelOf c cell sup x y = (decodeCell cell).fg.setWidth 8 :=
  if_pos ⟨hbit, hshown⟩

/-- A pixel whose glyph bit is 0 is the background (R103). -/
theorem pixelOf_eq_bg_of_bit (hbit : glyphBit c (decodeCell cell).code x y = false) :
    pixelOf c cell sup x y = (decodeCell cell).bg.setWidth 8 :=
  if_neg fun h => absurd (hbit.symm.trans h.1) (by decide)

/-- Every pixel of a blink-suppressed cell is the background (R103). -/
theorem pixelOf_eq_bg_of_suppressed (hsup : (decodeCell cell).blink = true ∧ sup = true) :
    pixelOf c cell sup x y = (decodeCell cell).bg.setWidth 8 :=
  if_neg fun h => h.2 hsup

/-- A pixel is the foreground or the background (R103). -/
theorem pixelOf_eq_fg_or_bg (c : Config) (cell : CellWord) (sup : Bool) (x y : Nat) :
    pixelOf c cell sup x y = (decodeCell cell).fg.setWidth 8 ∨
      pixelOf c cell sup x y = (decodeCell cell).bg.setWidth 8 :=
  ite_eq_or_eq _ _ _

/-- SUP makes no difference to a cell that does not blink (R106 item 3). -/
theorem pixelOf_congr_sup (hblink : (decodeCell cell).blink = false) (sup sup' : Bool) (x y : Nat) :
    pixelOf c cell sup x y = pixelOf c cell sup' x y := by
  have hshown (b : Bool) : ¬((decodeCell cell).blink = true ∧ b = true) := by simp [hblink]
  cases hbit : glyphBit c (decodeCell cell).code x y with
  | false => rw [pixelOf_eq_bg_of_bit hbit, pixelOf_eq_bg_of_bit hbit]
  | true => rw [pixelOf_eq_fg hbit (hshown sup), pixelOf_eq_fg hbit (hshown sup')]

/-- A row of a glyph whose W bits are all `b` shows `b` in every column (R102). -/
theorem glyphBit_of_row_const {code : BitVec 8} {b : Bool}
    (h : ∀ y, y < c.cellH → ∀ i, i < c.cellW → (c.glyphRow code y).getLsbD i = b) (hx : x < c.cellW)
    (hy : y < c.cellH) : glyphBit c code x y = b :=
  h y hy _ (by omega)

end

/-- Bits 7:4 of a palette index are 0 (20_memory R55). -/
theorem extractLsb'_high_of_lt {v : Pixel} (h : v.toNat < 16) : v.extractLsb' 4 4 = 0#4 := by
  apply BitVec.eq_of_toNat_eq
  rw [BitVec.extractLsb'_toNat, Nat.shiftRight_eq_div_pow, Nat.div_eq_of_lt h]
  rfl

/-- Settles O37: the pixel function over the fields of the cell, each read from its bits. -/
theorem pixelFunctionInClosedForm : Obligations.PixelFunctionInClosedForm := by
  intro c cell sup x y hx _
  refine ⟨fun _ => rfl, ?closed, extractLsb'_high_of_lt (pixelOf_lt c cell sup x y), ?length, ?lane⟩
  case closed =>
    obtain ⟨hcode, hfg, hbg, hblink⟩ := cellFieldsAreTheirBits cell
    rw [← hcode, ← hfg, ← hbg, ← hblink]
    rfl
  case length => simp [rowPixels]
  case lane => simp [rowPixels, hx]

/-- Settles O38: items 1 to 3 by the glyph bit and the blink bit, item 4 because both colours are one, item 5 because
every column of the glyph shows the same bit. -/
theorem pixelFunctionHasItsProperties : Obligations.PixelFunctionHasItsProperties := by
  intro c cell
  refine ⟨fun _ _ _ => pixelOf_eq_bg_of_bit, fun hblink _ _ => pixelOf_eq_bg_of_suppressed ⟨hblink, rfl⟩,
    fun hblink => pixelOf_congr_sup hblink false true, ?sameColours, ?blank, ?full⟩
  case sameColours =>
    intro hsame sup x y
    rcases pixelOf_eq_fg_or_bg c cell sup x y with h | h
    · rw [h, hsame, BitVec.setWidth_setWidth (by decide)]
    · exact h
  case blank => exact fun hrows sup x y hx hy => pixelOf_eq_bg_of_bit (glyphBit_of_row_const hrows hx hy)
  case full => exact fun hrows sup x y hx hy hshown => pixelOf_eq_fg (glyphBit_of_row_const hrows hx hy) hshown

/-! ### The outcomes of RASTER_CELL (40_glyph_rasterizer R111) -/

/-- RASTER_CELL and RASTER_CELL.S are one command, each with its SUP and its own word. -/
theorem exec_rasterCell (sup : Bool) (s : State) :
    exec (Command.rasterCell sup).toInstr s = rasterCommand sup (Command.rasterCell sup).word s := by
  cases sup <;> rfl

theorem toInstr_rasterCell (sup : Bool) :
    (Command.rasterCell sup).toInstr = if sup = true then .rasterCellS else .rasterCell := by
  cases sup <;> rfl

/-- The first check: the frames are locked. -/
theorem exec_rasterCell_of_locked (sup : Bool) {s : State} (hv : s.framesValid = true) :
    exec (Command.rasterCell sup).toInstr s =
      .next (s.raiseError .framesLocked (Command.rasterCell sup).word) := by
  rw [exec_rasterCell]
  exact if_pos hv

/-- The second check: the highest address is outside the pixel space. -/
theorem exec_rasterCell_of_range (sup : Bool) {s : State} (hv : s.framesValid = false)
    (hl : s.cfg.pixSize ≤ rasterLast s) :
    exec (Command.rasterCell sup).toInstr s = .next (s.raiseError .dstRange (Command.rasterCell sup).word) := by
  rw [exec_rasterCell]
  exact (if_neg (by simp [hv])).trans (if_pos hl)

/-- Past both checks the pixel loop runs. -/
theorem exec_rasterCell_of_fits (sup : Bool) {s : State} (hv : s.framesValid = false)
    (hl : rasterLast s < s.cfg.pixSize) :
    exec (Command.rasterCell sup).toInstr s =
      .next { s with pix := rasterInto s.cfg s.rasterBase s.rasterStride s.cell sup s.pix } := by
  rw [exec_rasterCell]
  exact (if_neg (by simp [hv])).trans (if_neg (by omega))

/-- The highest address bounds every address of the loop: its terms are those of the last row and the last column. -/
theorem raster_le_rasterLast {s : State} {x y : Nat} (hx : x < s.cfg.cellW) (hy : y < s.cfg.cellH) :
    s.rasterBase + y * s.rasterStride + x ≤ rasterLast s := by
  have hrow : y * s.rasterStride ≤ (s.cfg.cellH - 1) * s.rasterStride := Nat.mul_le_mul_right _ (by omega)
  unfold rasterLast
  omega

/-- Settles O40: the two error outcomes, and the bound that makes the range check enough. -/
theorem rasterCellChecksInOrder : Obligations.RasterCellChecksInOrder := fun _ =>
  ⟨fun hv => ⟨exec_rasterCell_of_locked false hv, exec_rasterCell_of_locked true hv⟩,
    fun hv hl => ⟨exec_rasterCell_of_range false hv hl, exec_rasterCell_of_range true hv hl⟩,
    fun _ _ => raster_le_rasterLast⟩

/-! ### The footprint (40_glyph_rasterizer R112, R113) -/

/-- No two pairs share an address where the stride is at least W or there is one row. -/
theorem footprint_injective {w h base stride x y x' y' : Nat} (hsep : w ≤ stride ∨ h = 1) (hx : x < w) (hy : y < h)
    (hx' : x' < w) (hy' : y' < h) (heq : base + y' * stride + x' = base + y * stride + x) : x' = x ∧ y' = y := by
  rcases hsep with hstride | rfl
  · have hcol : (y' * stride + x') % stride = (y * stride + x) % stride := congrArg (· % stride) (by omega)
    rw [Nat.mul_add_mod_of_lt (by omega), Nat.mul_add_mod_of_lt (by omega)] at hcol
    exact ⟨hcol, Nat.eq_of_mul_eq_mul_right (by omega : 0 < stride) (by omega)⟩
  · obtain rfl : y' = y := by omega
    exact ⟨by omega, rfl⟩

/-- Settles O39: past the checks the pixel loop runs, whose last write to an address stays. -/
theorem rasterCellWritesItsFootprint : Obligations.RasterCellWritesItsFootprint := by
  intro s sup hv hl
  rw [← toInstr_rasterCell]
  refine ⟨_, exec_rasterCell_of_fits sup hv hl, rfl, ?last, ?disjoint, fun _ hout => rasterInto_read_outside hout _⟩
  case last =>
    intro x y hx hy hlast
    refine rasterInto_read_last hx hy (fun x' y' hx' hy' hlater heq => ?_) s.pix
    have := hlast x' y' hx' hy' heq
    omega
  case disjoint =>
    intro hsep x y hx hy
    have hinj x' y' (hx' : x' < s.cfg.cellW) (hy' : y' < s.cfg.cellH) :=
      footprint_injective (base := s.rasterBase) hsep hx hy hx' hy'
    refine ⟨rasterInto_read_last hx hy (fun x' y' hx' hy' hlater heq => ?_) s.pix, hinj⟩
    have := hinj x' y' hx' hy' heq
    omega

/-- Settles O41: with stride 0 the footprint is one row of W addresses, and the last pair of each is in row H-1. -/
theorem strideZeroLeavesTheLastRow : Obligations.StrideZeroLeavesTheLastRow := by
  intro s sup hv hh hstride hl
  have hzero : s.dstStride.toNat = 0 := by simp [hstride]
  obtain ⟨t, hexec, -, hlast, -, hout⟩ := rasterCellWritesItsFootprint s sup hv (by simpa [hzero] using hl)
  simp only [hzero, Nat.mul_zero, Nat.add_zero] at hlast hout
  refine ⟨t, hexec, fun x hx => ?_, fun a ha => ?_⟩
  · exact hlast x (s.cfg.cellH - 1) hx (by omega) fun x' y' _ _ _ => by omega
  · exact hout a fun x _ hx _ => by omega

/-! ### What RASTER_CELL depends on (40_glyph_rasterizer R114) -/

/-- One glyph row writes the same pixels whatever the memory was. -/
theorem rasterRow_read_congr (c : Config) (base stride : Nat) (cell : CellWord) (sup : Bool) (y : Nat) {a : Nat}
    {m n : Memory 8} (h : m.read a = n.read a) :
    Memory.read (rasterRow c base stride cell sup y m) a = Memory.read (rasterRow c base stride cell sup y n) a := by
  refine List.foldl_rel (r := fun m n : Memory 8 => m.read a = n.read a) h fun x _ m n hmn => ?_
  rw [rasterPixel_eq, rasterPixel_eq, Memory.read_write, Memory.read_write, hmn]

/-- The pixel loop writes the same pixels whatever the memory was. -/
theorem rasterInto_read_congr (c : Config) (base stride : Nat) (cell : CellWord) (sup : Bool) {a : Nat}
    {m n : Memory 8} (h : m.read a = n.read a) :
    Memory.read (rasterInto c base stride cell sup m) a = Memory.read (rasterInto c base stride cell sup n) a :=
  List.foldl_rel (r := fun m n : Memory 8 => m.read a = n.read a) h fun y _ _ _ =>
    rasterRow_read_congr c base stride cell sup y

/-- The three outcomes depend on the operands, FRAMES_VALID and the tables only, but for the pixels' old values. -/
theorem exec_rasterCell_read_congr (sup : Bool) {s u : State} (hcfg : s.cfg = u.cfg) (hcell : s.cell = u.cell)
    (hbase : s.dstBase = u.dstBase) (hstride : s.dstStride = u.dstStride) (hvalid : s.framesValid = u.framesValid) :
    ∃ t v, exec (Command.rasterCell sup).toInstr s = .next t ∧ exec (Command.rasterCell sup).toInstr u = .next v ∧
      ∀ a, s.pix.read a = u.pix.read a → t.pix.read a = v.pix.read a := by
  have hlast : rasterLast s = rasterLast u := by
    simp only [rasterLast, State.rasterBase, State.rasterStride, hcfg, hbase, hstride]
  cases hv : s.framesValid with
  | true =>
    exact ⟨_, _, exec_rasterCell_of_locked sup hv, exec_rasterCell_of_locked sup (hvalid ▸ hv), fun _ => id⟩
  | false =>
    have hv' : u.framesValid = false := hvalid ▸ hv
    rcases Nat.lt_or_ge (rasterLast s) s.cfg.pixSize with hl | hl
    · have hl' : rasterLast u < u.cfg.pixSize := hcfg ▸ hlast ▸ hl
      refine ⟨_, _, exec_rasterCell_of_fits sup hv hl, exec_rasterCell_of_fits sup hv' hl', fun a ha => ?_⟩
      simp only [State.rasterBase, State.rasterStride, hcfg, hcell, hbase, hstride]
      exact rasterInto_read_congr _ _ _ _ _ ha
    · have hl' : u.cfg.pixSize ≤ rasterLast u := hcfg ▸ hlast ▸ hl
      exact ⟨_, _, exec_rasterCell_of_range sup hv hl, exec_rasterCell_of_range sup hv' hl', fun _ => id⟩

/-- Settles O42: both forms, by their common outcomes. -/
theorem rasterCellDependsOnItsOperands : Obligations.RasterCellDependsOnItsOperands := by
  rintro s u i (rfl | rfl) hcfg hcell hbase hstride hvalid
  · exact exec_rasterCell_read_congr false hcfg hcell hbase hstride hvalid
  · exact exec_rasterCell_read_congr true hcfg hcell hbase hstride hvalid

end Sys2Proof.Machine
end

section
/-! The frame builder (41_frame_builder): the three outcomes of BUILD_FRAMES, the pixels of the two images by cell, and what
the grid iterator leaves at each of them. -/

namespace Sys2Proof.Machine

/-! ### The outcomes of BUILD_FRAMES (41_frame_builder R131, R134, R137) -/

/-- Valid frames are locked (R137). -/
theorem exec_buildFrames_of_locked {s : State} (hv : s.framesValid = true) :
    exec .buildFrames s = .next (s.raiseError .framesLocked (Command.word .buildFrames)) :=
  if_pos hv

/-- An incomplete grid only sets the fault mark (R131, log 10). -/
theorem exec_buildFrames_of_incomplete {s : State} (hv : s.framesValid = false) (hg : gridComplete s = false) :
    exec .buildFrames s = .next s.markFault :=
  (if_neg (by simp [hv])).trans (if_pos hg)

/-- On a complete grid the grid iterator runs and the command publishes (R130, R134). -/
theorem exec_buildFrames_of_complete {s : State} (hv : s.framesValid = false)
    (hg : ∀ i, i < s.cfg.cells → s.grid.written i = true) :
    exec .buildFrames s = .next { s with pix := buildImages s.cfg (gridWord s) s.pix }.publish :=
  (if_neg (by simp [hv])).trans (if_neg (by simp [(gridComplete_iff s).2 hg]))

/-- Settles O44: the two outcomes that build nothing; one unwritten word makes the grid incomplete. -/
theorem buildFramesLockedOrIncomplete : Obligations.BuildFramesLockedOrIncomplete := by
  refine fun s => ⟨exec_buildFrames_of_locked, fun i hv hi hw => exec_buildFrames_of_incomplete hv ?_⟩
  refine Bool.eq_false_iff.2 fun hg => ?_
  exact absurd (((gridComplete_iff s).1 hg i hi).symm.trans hw) (by decide)

/-! ### The pixels of the two images (41_frame_builder R132) -/

/-- A pixel of the two images: its image, its cell, and its column and row inside the cell. -/
structure FramePixel (c : Config) where
  image : Phase
  row : Fin c.rows
  col : Fin c.cols
  x : Fin c.cellW
  y : Fin c.cellH

section
variable {c : Config} {g : Nat → CellWord} {m : Memory 8}

/-- The address at which the grid iterator writes the pixel. -/
def FramePixel.addr (p : FramePixel c) : Nat :=
  imageBase c p.image + cellOrigin c p.row p.col + p.y * c.imgStride + p.x

/-- The pixel's value for the grid `g`: the pixel function of its cell, with blink suppression in image S. -/
def FramePixel.value (g : Nat → CellWord) (p : FramePixel c) : Pixel :=
  pixelOf c (g (cellIndex c p.row p.col)) p.image.bit p.x p.y

/-- The address by the pixel's row and column in its image. -/
theorem FramePixel.addr_eq (p : FramePixel c) :
    p.addr = imageBase c p.image + (p.row * c.cellH + p.y) * c.imgStride + (p.col * c.cellW + p.x) := by
  have := cellOrigin_add c p.row p.col p.x p.y
  unfold addr
  omega

/-- The grid has a word for the pixel's cell. -/
theorem FramePixel.cellIndex_lt (p : FramePixel c) : cellIndex c p.row p.col < c.cells :=
  row_col_lt_mul p.row.isLt p.col.isLt

/-- Pixels of different images have different addresses: image S lies above image V. -/
theorem FramePixel.image_eq_of_addr_eq {p q : FramePixel c} (h : p.addr = q.addr) : p.image = q.image := by
  have hp := cellOrigin_add_lt_img p.row.isLt p.col.isLt p.x.isLt p.y.isLt
  have hq := cellOrigin_add_lt_img q.row.isLt q.col.isLt q.x.isLt q.y.isLt
  unfold addr at h
  cases himage : p.image <;> cases himage' : q.image <;> simp only [himage, himage', imageBase] at h ⊢ <;> omega

/-- No two pixels share an address: it gives the pixel's row and column in the image, and these the cell and the place
inside it. -/
theorem FramePixel.addr_injective : Function.Injective (FramePixel.addr (c := c)) := by
  intro p q h
  have himage := image_eq_of_addr_eq h
  rw [addr_eq, addr_eq, himage] at h
  obtain ⟨hpx, hpy⟩ := footprint_injective (.inl (le_refl c.imgStride)) (row_col_lt_mul q.col.isLt q.x.isLt)
    (row_col_lt_mul q.row.isLt q.y.isLt) (row_col_lt_mul p.col.isLt p.x.isLt) (row_col_lt_mul p.row.isLt p.y.isLt) h
  obtain ⟨hx, hcol⟩ := footprint_injective (base := 0) (.inl (le_refl c.cellW)) q.x.isLt q.col.isLt p.x.isLt p.col.isLt
    (by omega)
  obtain ⟨hy, hrow⟩ := footprint_injective (base := 0) (.inl (le_refl c.cellH)) q.y.isLt q.row.isLt p.y.isLt p.row.isLt
    (by omega)
  cases p
  cases q
  simp_all [Fin.ext_iff]

/-- Every pixel of the pixel space is a pixel of the two images (R133). -/
theorem FramePixel.exists_addr_eq {a : Nat} (h : a < c.pixSize) : ∃ p : FramePixel c, p.addr = a := by
  obtain ⟨row, hrow, col, hcol, x, hx, y, hy, base, rfl | rfl, rfl⟩ := exists_cell_of_lt_pixSize h
  · exact ⟨⟨.visible, ⟨row, hrow⟩, ⟨col, hcol⟩, ⟨x, hx⟩, ⟨y, hy⟩⟩, by simp [addr, imageBase]⟩
  · exact ⟨⟨.suppressed, ⟨row, hrow⟩, ⟨col, hcol⟩, ⟨x, hx⟩, ⟨y, hy⟩⟩, rfl⟩

/-- The pixel at row `py` and column `px` of an image. -/
def FramePixel.ofRowCol (image : Phase) {py px : Nat} (hpy : py < c.rows * c.cellH) (hpx : px < c.cols * c.cellW) :
    FramePixel c where
  image := image
  row := ⟨py / c.cellH, Nat.div_lt_of_lt_mul (by rwa [Nat.mul_comm])⟩
  col := ⟨px / c.cellW, Nat.div_lt_of_lt_mul (by rwa [Nat.mul_comm])⟩
  x := ⟨px % c.cellW, Nat.mod_lt _ (Nat.pos_of_mul_pos_left (Nat.zero_lt_of_lt hpx))⟩
  y := ⟨py % c.cellH, Nat.mod_lt _ (Nat.pos_of_mul_pos_left (Nat.zero_lt_of_lt hpy))⟩

theorem FramePixel.addr_ofRowCol (image : Phase) {py px : Nat} (hpy : py < c.rows * c.cellH)
    (hpx : px < c.cols * c.cellW) :
    (FramePixel.ofRowCol image hpy hpx).addr = imageBase c image + py * c.imgStride + px := by
  rw [addr_eq]
  simp only [ofRowCol, Nat.div_add_mod']

/-! ### What the grid iterator leaves (41_frame_builder R130, R133) -/

/-- The memory holds the pixel's value for the grid `g`. -/
def FramePixel.HoldsIn (p : FramePixel c) (g : Nat → CellWord) (m : Memory 8) : Prop := m.read p.addr = some (p.value g)

/-- Writing any pixel's value keeps the others, since no two share an address. -/
theorem FramePixel.HoldsIn.write {p : FramePixel c} (h : p.HoldsIn g m) (q : FramePixel c) :
    p.HoldsIn g (m.write q.addr (q.value g)) := by
  unfold HoldsIn
  rw [Memory.read_write]
  split_ifs with heq
  · rw [addr_injective heq]
  · exact h

/-- The pixel loop over one cell in one image. -/
def rasterImageCell (c : Config) (g : Nat → CellWord) (image : Phase) (row col : Nat) (m : Memory 8) : Memory 8 :=
  rasterInto c (imageBase c image + cellOrigin c row col) c.imgStride (g (cellIndex c row col)) image.bit m

/-- One cell of the grid iterator is the pixel loop in image V, then in image S (R130). -/
theorem buildCell_eq (row col : Nat) :
    buildCell c g row col m = rasterImageCell c g .suppressed row col (rasterImageCell c g .visible row col m) := by
  simp [buildCell, rasterImageCell, imageBase, Phase.bit]

/-- The pixel loop over a pixel's cell in its image leaves its value. -/
theorem FramePixel.holdsIn_rasterImageCell (p : FramePixel c) (m : Memory 8) :
    p.HoldsIn g (rasterImageCell c g p.image p.row p.col m) :=
  rasterInto_read_of_stride p.x.isLt p.y.isLt (Nat.le_mul_of_pos_left _ p.col.pos) m

/-- The pixel loop over any cell in any image keeps every pixel that holds. -/
theorem FramePixel.HoldsIn.after_rasterImageCell {p : FramePixel c} (h : p.HoldsIn g m) (image : Phase) {row col : Nat}
    (hrow : row < c.rows) (hcol : col < c.cols) : p.HoldsIn g (rasterImageCell c g image row col m) :=
  rasterInto_induct c _ _ _ _
    (fun _ x y hx hy hm => hm.write ⟨image, ⟨row, hrow⟩, ⟨col, hcol⟩, ⟨x, hx⟩, ⟨y, hy⟩⟩) m h

/-- Any cell of the grid iterator keeps every pixel that holds. -/
theorem FramePixel.HoldsIn.after_buildCell {p : FramePixel c} (h : p.HoldsIn g m) {row col : Nat} (hrow : row < c.rows)
    (hcol : col < c.cols) : p.HoldsIn g (buildCell c g row col m) := by
  rw [buildCell_eq]
  exact (h.after_rasterImageCell .visible hrow hcol).after_rasterImageCell .suppressed hrow hcol

/-- A pixel's own cell of the grid iterator leaves its value. -/
theorem FramePixel.holdsIn_buildCell (p : FramePixel c) (m : Memory 8) :
    p.HoldsIn g (buildCell c g p.row p.col m) := by
  rw [buildCell_eq]
  have hleaves := p.holdsIn_rasterImageCell (g := g)
  cases himage : p.image with
  | visible => exact (himage ▸ hleaves m).after_rasterImageCell .suppressed p.row.isLt p.col.isLt
  | suppressed => exact himage ▸ hleaves _

/-- After the grid iterator every pixel of the two images holds: its cell leaves it and the other cells keep it. -/
theorem FramePixel.holdsIn_buildImages (p : FramePixel c) (g : Nat → CellWord) (m : Memory 8) :
    p.HoldsIn g (buildImages c g m) := by
  refine foldl_of_mem (List.mem_range.2 p.row.isLt)
    (foldl_of_mem (List.mem_range.2 p.col.isLt) p.holdsIn_buildCell fun m hm col hcol => ?_)
    (fun m hm row hrow => List.foldlRecOn _ _ hm fun m hm col hcol => ?_) m
  · exact hm.after_buildCell p.row.isLt (List.mem_range.1 hcol)
  · exact hm.after_buildCell (List.mem_range.1 hrow) (List.mem_range.1 hcol)

/-- The grid iterator leaves the addresses at and above PIX_SIZE alone. -/
theorem buildImages_read_above {a : Nat} (ha : c.pixSize ≤ a) (g : Nat → CellWord) (m : Memory 8) :
    Memory.read (buildImages c g m) a = m.read a :=
  have hkept : KeptByPixelWrites c (fun m' => m'.read a = m.read a) := fun _ _ v hb _ hm =>
    (Memory.read_write_of_ne _ v (by omega)).trans hm
  hkept.after_buildImages g rfl

end

/-! ### What BUILD_FRAMES leaves -/

/-- A pixel whose cell has a word is the pixel function of that word. -/
theorem buildImages_read_of_gridWord {s : State} (p : FramePixel s.cfg) {cell : CellWord}
    (hcell : s.grid.read (cellIndex s.cfg p.row p.col) = some cell) (m : Memory 8) :
    Memory.read (buildImages s.cfg (gridWord s) m) p.addr = some (pixelOf s.cfg cell p.image.bit p.x p.y) := by
  rw [p.holdsIn_buildImages (gridWord s) m, FramePixel.value, gridWord_of_read hcell]

/-- Settles O43: the grid iterator leaves every pixel of both images and nothing above them, and publish sets the rest. -/
theorem buildFramesRastersBothImages : Obligations.BuildFramesRastersBothImages := by
  intro s hv hg
  refine ⟨_, exec_buildFrames_of_complete hv hg, rfl, fun py px cell hpy hpx hcell => ⟨?visible, ?suppressed⟩,
    fun a ha => buildImages_written ha _ _, fun a ha => buildImages_read_above ha _ _⟩
  case visible =>
    have h := buildImages_read_of_gridWord (.ofRowCol .visible hpy hpx) hcell s.pix
    rwa [FramePixel.addr_ofRowCol, imageBase, Nat.zero_add] at h
  case suppressed =>
    have h := buildImages_read_of_gridWord (.ofRowCol .suppressed hpy hpx) hcell s.pix
    rwa [FramePixel.addr_ofRowCol] at h

/-- Settles O45: every pixel of either build is the pixel function of its cell's word, which both grids share. -/
theorem buildFramesForgetsThePast : Obligations.BuildFramesForgetsThePast := by
  intro s u hcfg hs hu hgrid
  have hu' i (hi : i < u.cfg.cells) : u.grid.written i = true := by
    obtain ⟨hw, hr⟩ := hgrid i (hcfg ▸ hi)
    rwa [Memory.written, ← hr]
  refine ⟨_, _, exec_buildFrames_of_complete hs fun i hi => (hgrid i hi).1, exec_buildFrames_of_complete hu hu',
    fun a ha => ?_⟩
  obtain ⟨p, rfl⟩ := FramePixel.exists_addr_eq ha
  have hword : gridWord s (cellIndex s.cfg p.row p.col) = gridWord u (cellIndex s.cfg p.row p.col) := by
    rw [gridWord, gridWord, (hgrid _ p.cellIndex_lt).2]
  calc Memory.read (buildImages s.cfg (gridWord s) s.pix) p.addr
    _ = some (p.value (gridWord s)) := p.holdsIn_buildImages _ _
    _ = some (p.value (gridWord u)) := by rw [FramePixel.value, hword, FramePixel.value]
    _ = Memory.read (buildImages s.cfg (gridWord u) u.pix) p.addr := (p.holdsIn_buildImages _ _).symm
    _ = Memory.read (buildImages u.cfg (gridWord u) u.pix) p.addr :=
      congrArg (fun c => Memory.read (buildImages c (gridWord u) u.pix) p.addr) hcfg

/-- Settles O46: the two images hold the pixel function of the cell's word without and with blink suppression. -/
theorem blinkingCellsAreBlankInTheSuppressedImage : Obligations.BlinkingCellsAreBlankInTheSuppressedImage := by
  intro s t hv hg hexec row col x y cell hrow hcol hx hy hcell
  obtain rfl := Host.Outcome.next.inj (hexec.symm.trans (exec_buildFrames_of_complete hv hg))
  have hread (image : Phase) :=
    buildImages_read_of_gridWord ⟨image, ⟨row, hrow⟩, ⟨col, hcol⟩, ⟨x, hx⟩, ⟨y, hy⟩⟩ hcell s.pix
  simp only [FramePixel.addr_eq] at hread
  have hvisible := hread .visible
  rw [imageBase, Nat.zero_add] at hvisible
  obtain ⟨-, -, hbg, hblink⟩ := cellFieldsAreTheirBits cell
  rw [← hblink, ← hbg]
  refine ⟨fun hsteady => ?_, fun hblinks => ?_⟩
  · exact (hread .suppressed).trans ((congrArg some (pixelOf_congr_sup hsteady _ _ _ _)).trans hvisible.symm)
  · exact (hread .suppressed).trans (congrArg some (pixelOf_eq_bg_of_suppressed ⟨hblinks, rfl⟩))

end Sys2Proof.Machine
end

section
/-! The blink scheduler (42_blink_scheduler): the outcomes of BLINK_START and BLINK_CHECK, the flips since the epoch, which
every step keeps, the checks that hold the phase to the elapsed time, and the outputs the scheduler drives. -/

namespace Sys2Proof.Machine

/-! ### The outcomes of BLINK_START (R151) -/

/-- A time value up to the largest fits a register (R163). -/
theorem toNat_ofNat_of_le_timeMax {n : Nat} (h : n ≤ timeMax) : (BitVec.ofNat 32 n).toNat = n :=
  Nat.mod_eq_of_lt (Nat.lt_of_le_of_lt h (by decide))

/-- ALREADY_ARMED comes first. -/
theorem exec_blinkStart_of_armed {s : State} (ha : s.armed = true) :
    exec .blinkStart s = .next (s.raiseError .alreadyArmed (Command.word .blinkStart)) :=
  if_pos ha

/-- TIME_OVERFLOW: the first deadline does not fit (R163). -/
theorem exec_blinkStart_of_overflow {s : State} (ha : s.armed = false) (ht : timeMax < s.now.toNat + s.cfg.period) :
    exec .blinkStart s = .next (s.raiseError .timeOverflow (Command.word .blinkStart)) :=
  (if_neg (by simp [ha])).trans (if_pos ht)

/-- A start whose deadline fits arms the scheduler. -/
theorem exec_blinkStart_of_fits {s : State} (ha : s.armed = false) (ht : s.now.toNat + s.cfg.period ≤ timeMax) :
    exec .blinkStart s =
      .next { s with phase := .visible, deadline := BitVec.ofNat 32 (s.now.toNat + s.cfg.period), armed := true } :=
  (if_neg (by simp [ha])).trans (if_neg ht.not_gt)

/-- Settles O30: the three outcomes; the deadline fits its register in the last. -/
theorem blinkStartArmsTheScheduler : Obligations.BlinkStartArmsTheScheduler :=
  ⟨rfl, fun _ => ⟨exec_blinkStart_of_armed, exec_blinkStart_of_overflow, fun ha ht =>
    ⟨_, exec_blinkStart_of_fits ha ht, toNat_ofNat_of_le_timeMax ht, rfl⟩⟩⟩

/-! ### The outcomes of BLINK_CHECK (R155) -/

/-- NOT_ARMED comes first (60_exceptions R212). -/
theorem exec_blinkCheck_of_not_armed {s : State} (ha : s.armed = false) :
    exec .blinkCheck s = .next (s.raiseError .notArmed (Command.word .blinkCheck)) :=
  if_pos ha

/-- Before the deadline a check has no effect. -/
theorem exec_blinkCheck_of_early {s : State} (ha : s.armed = true) (hd : s.now.toNat < s.deadline.toNat) :
    exec .blinkCheck s = .next s :=
  (if_neg (by simp [ha])).trans (if_pos hd)

/-- TIME_OVERFLOW: a due flip whose next deadline does not fit (R163). -/
theorem exec_blinkCheck_of_overflow {s : State} (ha : s.armed = true) (hd : s.deadline.toNat ≤ s.now.toNat)
    (ht : timeMax < s.deadline.toNat + s.cfg.period) :
    exec .blinkCheck s = .next (s.raiseError .timeOverflow (Command.word .blinkCheck)) :=
  (if_neg (by simp [ha])).trans ((if_neg hd.not_gt).trans (if_pos ht))

/-- A check at or after the deadline flips, where the next deadline fits. -/
theorem exec_blinkCheck_of_due {s : State} (ha : s.armed = true) (hd : s.deadline.toNat ≤ s.now.toNat)
    (ht : s.deadline.toNat + s.cfg.period ≤ timeMax) : exec .blinkCheck s = .next s.flip.requestIfValid :=
  (if_neg (by simp [ha])).trans ((if_neg hd.not_gt).trans (if_neg ht.not_gt))

theorem Phase.flip_eq (p : Phase) : p.flip = if p = .visible then .suppressed else .visible := by
  cases p <;> rfl

theorem Phase.flip_ne (p : Phase) : p.flip ≠ p := by
  cases p <;> decide

/-- A flip's request sets PEND and appends the event while the frames are valid, and touches nothing else (R161, R162). -/
theorem State.requestIfValid_eq (s : State) :
    s.requestIfValid =
      { s with
        pend := s.framesValid || s.pend
        presents := if s.framesValid = true then s.presents ++ [s.phase] else s.presents } := by
  obtain ⟨_, _, _, _, _, valid, _⟩ := s
  cases valid <;> rfl

/-- After a flip whose deadline fits, the deadline is one period after the prior deadline (R157). -/
theorem State.flip_deadline_toNat {s : State} (ht : s.deadline.toNat + s.cfg.period ≤ timeMax) :
    s.flip.requestIfValid.deadline.toNat = s.deadline.toNat + s.cfg.period := by
  simpa using toNat_ofNat_of_le_timeMax ht

/-- Settles O31: the four outcomes; the last is one flip and its request. -/
theorem blinkCheckFlipsOncePerDeadline : Obligations.BlinkCheckFlipsOncePerDeadline := by
  refine ⟨rfl, fun s => ⟨exec_blinkCheck_of_not_armed, exec_blinkCheck_of_early, exec_blinkCheck_of_overflow,
    fun ha hd ht => ⟨_, exec_blinkCheck_of_due ha hd ht, State.flip_deadline_toNat ht, ?phase, ?frame⟩⟩⟩
  case phase => simpa using s.phase.flip_eq
  case frame =>
    rw [State.requestIfValid_eq]
    rfl

/-! ### The flips since the epoch (R157, R159) -/

/-- The scheduler was armed at time `start` and has flipped `flips` times since. -/
structure State.Flipped (start flips : Nat) (s : State) : Prop where
  armed : s.armed = true
  deadline : s.deadline.toNat = start + (flips + 1) * s.cfg.period
  phase : s.phase = if flips % 2 = 0 then .visible else .suppressed

section
variable {i : Instr} {s t : State} {start flips : Nat}

/-- An armed scheduler runs on the epoch `start` exactly when it has flipped some number of times since. -/
theorem State.onEpoch_iff_of_armed (ha : s.armed = true) : s.OnEpoch start ↔ ∃ flips, s.Flipped start flips :=
  ⟨fun h => (h ha).imp fun _ ⟨hdeadline, hphase⟩ => ⟨ha, hdeadline, hphase⟩,
    fun ⟨flips, h⟩ _ => ⟨flips, h.deadline, h.phase⟩⟩

theorem State.Flipped.onEpoch (h : s.Flipped start flips) : s.OnEpoch start :=
  (State.onEpoch_iff_of_armed h.armed).mpr ⟨flips, h⟩

/-- The flips show in ARMED, DEADLINE and PHASE only. -/
theorem State.Flipped.of_eq (h : s.Flipped start flips) (hcfg : t.cfg = s.cfg := by simp)
    (harmed : t.armed = s.armed := by simp) (hdeadline : t.deadline = s.deadline := by simp)
    (hphase : t.phase = s.phase := by simp) : t.Flipped start flips where
  armed := by rw [harmed]; exact h.armed
  deadline := by rw [hdeadline, hcfg]; exact h.deadline
  phase := by rw [hphase]; exact h.phase

/-- BLINK_START sets the epoch: no flips yet (R151). -/
theorem State.Flipped.of_blinkStart (ha : s.armed = false) (ht : s.now.toNat + s.cfg.period ≤ timeMax)
    (hexec : exec .blinkStart s = .next t) : t.Flipped s.now.toNat 0 := by
  obtain rfl := Host.Outcome.next.inj (hexec.symm.trans (exec_blinkStart_of_fits ha ht))
  exact ⟨rfl, by simpa using toNat_ofNat_of_le_timeMax ht, rfl⟩

/-- A flip whose deadline fits counts one more. -/
theorem State.Flipped.flip (h : s.Flipped start flips) (ht : s.deadline.toNat + s.cfg.period ≤ timeMax) :
    s.flip.requestIfValid.Flipped start (flips + 1) where
  armed := by simpa using h.armed
  deadline := by
    rw [State.flip_deadline_toNat ht, h.deadline]
    simp only [State.requestIfValid_cfg, State.flip_cfg]
    ring
  phase := by
    rw [State.requestIfValid_phase, State.flip_phase, h.phase]
    rcases Nat.mod_two_eq_zero_or_one flips with hmod | hmod <;> simp [Nat.add_mod, hmod, Phase.flip]

/-- On an armed scheduler an instruction keeps the flips, or is a BLINK_CHECK and counts one more. -/
theorem Effect.flipped (he : Effect i s t) (h : s.Flipped start flips) :
    t.Flipped start flips ∨
      encode i = .regWr cmdOffset (Command.word .blinkCheck) ∧ t.Flipped start (flips + 1) := by
  cases he with
  | start _ ha => exact absurd (h.armed.symm.trans ha) (by decide)
  | flip hw _ _ ht => exact .inr ⟨hw, h.flip ht⟩
  | unchanged | error | store | read | readUnwritten | ack | gridWrite | raster | incomplete | build =>
    exact .inl h.of_eq

end

/-- Settles O33: BLINK_START sets the epoch, where it arms the scheduler at all, and a step keeps the flips, counts one
more, or resets the scheduler. -/
theorem everyStepKeepsTheEpoch : Obligations.EveryStepKeepsTheEpoch := by
  refine ⟨fun s t ha hexec harmed => ?start, fun start s t ha hepoch hstep => ?step⟩
  case start =>
    rcases Nat.lt_or_ge timeMax (s.now.toNat + s.cfg.period) with ht | ht
    · obtain rfl := Host.Outcome.next.inj (hexec.symm.trans (exec_blinkStart_of_overflow ha ht))
      exact absurd (harmed.symm.trans ha) (by decide)
    · have h : t.Flipped s.now.toNat 0 := .of_blinkStart ha ht hexec
      have hcfg : t.cfg = s.cfg := (exec_effect hexec).cfg_eq
      exact ⟨by simpa [hcfg] using h.deadline, h.phase, h.onEpoch⟩
  case step =>
    obtain ⟨flips, h⟩ := (State.onEpoch_iff_of_armed ha).mp hepoch
    have h' : s.dequeue.Flipped start flips := h.of_eq
    rcases step_cases hstep with rfl | rfl | rfl | ⟨i, hexec⟩
    · exact hepoch
    · exact nofun
    · exact (h'.of_eq (t := s.dequeue.markRefusal)).onEpoch
    · rcases (exec_effect hexec).flipped h' with hkept | ⟨-, hflip⟩
      · exact hkept.onEpoch
      · exact hflip.onEpoch

/-! ### The phase and the elapsed time (R159) -/

/-- The times of the checks to come, none after interval `k`, hit every interval up to `k` that has not been flipped
into. -/
structure ChecksEveryPeriod (start period flips k : Nat) (times : List Nat) : Prop where
  sorted : times.Pairwise (· ≤ ·)
  before : ∀ t ∈ times, t < start + (k + 1) * period
  covered : ∀ j, flips < j → j ≤ k → ∃ t ∈ times, start + j * period ≤ t ∧ t < start + (j + 1) * period
  flips_le : flips ≤ k

section
variable {start period flips k time : Nat} {times : List Nat}

/-- With no check to come, every interval has been flipped into. -/
theorem ChecksEveryPeriod.flips_eq (h : ChecksEveryPeriod start period flips k []) : flips = k := by
  refine h.flips_le.antisymm (Nat.le_of_not_lt fun hlt => ?_)
  obtain ⟨t, ht, -⟩ := h.covered k hlt le_rfl
  exact List.not_mem_nil ht

/-- A check before the end of interval `m` hits none of the later intervals. -/
theorem ChecksEveryPeriod.covered_tail (h : ChecksEveryPeriod start period flips k (time :: times)) {m j : Nat}
    (hm : time < start + (m + 1) * period) (hflips : flips ≤ m) (hj : m < j) (hk : j ≤ k) :
    ∃ t ∈ times, start + j * period ≤ t ∧ t < start + (j + 1) * period := by
  obtain ⟨t, ht, hlo, hhi⟩ := h.covered j (by omega) hk
  rcases List.mem_cons.mp ht with rfl | ht
  · have : (m + 1) * period ≤ j * period := Nat.mul_le_mul_right _ hj
    omega
  · exact ⟨t, ht, hlo, hhi⟩

/-- A check before the deadline leaves the same intervals to the others. -/
theorem ChecksEveryPeriod.of_early (h : ChecksEveryPeriod start period flips k (time :: times))
    (hd : time < start + (flips + 1) * period) : ChecksEveryPeriod start period flips k times where
  sorted := h.sorted.of_cons
  before t ht := h.before t (List.mem_cons_of_mem _ ht)
  covered _ := h.covered_tail hd le_rfl
  flips_le := h.flips_le

/-- A due check is still within the last interval `k`. -/
theorem ChecksEveryPeriod.flips_lt (h : ChecksEveryPeriod start period flips k (time :: times))
    (hd : start + (flips + 1) * period ≤ time) : flips < k := by
  refine h.flips_le.lt_of_ne fun heq => ?_
  have := h.before time List.mem_cons_self
  subst heq
  omega

/-- A due check is in the very interval that begins at the deadline: the times do not decrease, and one is in it. -/
theorem ChecksEveryPeriod.of_due (h : ChecksEveryPeriod start period flips k (time :: times))
    (hd : start + (flips + 1) * period ≤ time) : ChecksEveryPeriod start period (flips + 1) k times := by
  have hlt : flips < k := h.flips_lt hd
  have hnext : time < start + (flips + 1 + 1) * period := by
    obtain ⟨t, ht, -, hhi⟩ := h.covered (flips + 1) (Nat.lt_succ_self _) hlt
    rcases List.mem_cons.mp ht with rfl | ht
    · exact hhi
    · exact (List.rel_of_pairwise_cons h.sorted ht).trans_lt hhi
  exact {
    sorted := h.sorted.of_cons
    before := fun t ht => h.before t (List.mem_cons_of_mem _ ht)
    covered := fun _ => h.covered_tail hnext (Nat.le_succ _)
    flips_le := hlt }

end

/-- A run of transactions is the first one's instruction, whose time is listed if it is a check, and the run of the
others. -/
theorem runTransactions_cons {t : Transaction} {ts : List Transaction} {s u : State} {times : List Nat}
    (h : runTransactions (t :: ts) s = some (u, times)) :
    ∃ i v rest, decode t = .ok i ∧ exec i s = .next v ∧ runTransactions ts v = some (u, rest) ∧
      times = if i = .blinkCheck then s.now.toNat :: rest else rest := by
  unfold runTransactions at h
  split at h
  · cases h
  next i hd =>
    split at h
    next v hexec =>
      obtain ⟨⟨u', rest⟩, hrun, heq⟩ := Option.map_eq_some_iff.mp h
      obtain ⟨rfl, rfl⟩ := Prod.mk.inj heq
      exact ⟨i, v, rest, hd, hexec, hrun, rfl⟩
    · cases h
    · cases h

/-- The decoder answers the word of BLINK_CHECK with BLINK_CHECK only. -/
theorem eq_blinkCheck_of_decode {t : Transaction} {i : Instr} (hd : decode t = .ok i)
    (hw : encode i = .regWr cmdOffset (Command.word .blinkCheck)) : i = .blinkCheck := by
  obtain ⟨rfl, -⟩ := decodeThenEncode t i hd
  rw [hw, decode_regWr_word] at hd
  exact (Except.ok.inj hd).symm

/-- A check takes its time off the checks to come, and flips if it is due. -/
theorem flipped_of_blinkCheck {s v : State} {start flips k : Nat} {times : List Nat} (h : s.Flipped start flips)
    (hc : ChecksEveryPeriod start s.cfg.period flips k (s.now.toNat :: times))
    (hfit : start + (k + 1) * s.cfg.period ≤ timeMax) (hexec : exec .blinkCheck s = .next v) :
    ∃ flips', v.Flipped start flips' ∧ ChecksEveryPeriod start s.cfg.period flips' k times := by
  rcases Nat.lt_or_ge s.now.toNat s.deadline.toNat with hd | hd
  · obtain rfl := Host.Outcome.next.inj (hexec.symm.trans (exec_blinkCheck_of_early h.armed hd))
    exact ⟨flips, h, hc.of_early (h.deadline ▸ hd)⟩
  · have hdue : start + (flips + 1) * s.cfg.period ≤ s.now.toNat := h.deadline ▸ hd
    have ht : s.deadline.toNat + s.cfg.period ≤ timeMax := by
      have : (flips + 1 + 1) * s.cfg.period ≤ (k + 1) * s.cfg.period :=
        Nat.mul_le_mul_right _ (Nat.succ_le_succ (hc.flips_lt hdue))
      rw [h.deadline]
      linarith
    obtain rfl := Host.Outcome.next.inj (hexec.symm.trans (exec_blinkCheck_of_due h.armed hd ht))
    exact ⟨flips + 1, h.flip ht, hc.of_due hdue⟩

/-- A run whose checks hit every interval up to `k` ends after `k` flips. -/
theorem runTransactions_flipped {start k : Nat} {u : State} (ts : List Transaction) (s : State) (flips : Nat)
    (times : List Nat) (h : s.Flipped start flips) (hc : ChecksEveryPeriod start s.cfg.period flips k times)
    (hfit : start + (k + 1) * s.cfg.period ≤ timeMax) (hrun : runTransactions ts s = some (u, times)) :
    u.Flipped start k ∧ u.cfg = s.cfg := by
  induction ts generalizing s flips times with
  | nil =>
    cases hrun
    exact ⟨hc.flips_eq ▸ h, rfl⟩
  | cons t ts ih =>
    obtain ⟨i, v, rest, hd, hexec, hrest, rfl⟩ := runTransactions_cons hrun
    have hcfg : v.cfg = s.cfg := (exec_effect hexec).cfg_eq
    obtain ⟨flips', hv, hc'⟩ :
        ∃ flips', v.Flipped start flips' ∧ ChecksEveryPeriod start s.cfg.period flips' k rest := by
      by_cases hi : i = .blinkCheck
      · subst hi
        exact flipped_of_blinkCheck h hc hfit hexec
      · rw [if_neg hi] at hc
        rcases (exec_effect hexec).flipped h with hkept | ⟨hw, -⟩
        · exact ⟨flips, hkept, hc⟩
        · exact absurd (eq_blinkCheck_of_decode hd hw) hi
    rw [← hcfg] at hc' hfit ⊢
    exact ih v flips' rest hv hc' hfit hrest

/-- Settles O32: BLINK_START leaves no flips, and the checks hit each of the `k` intervals after it. -/
theorem phaseFollowsElapsedTime : Obligations.PhaseFollowsElapsedTime := by
  intro s₀ s u ts times last k ha hexec hrun hfit hsorted _ hcovered _ hlast
  have hstart : s₀.now.toNat + s₀.cfg.period ≤ timeMax := by
    have : s₀.cfg.period ≤ (k + 1) * s₀.cfg.period := Nat.le_mul_of_pos_left _ k.succ_pos
    exact (Nat.add_le_add_left this _).trans hfit
  have hcfg : s.cfg = s₀.cfg := (exec_effect hexec).cfg_eq
  have hle : ∀ t ∈ times ++ [last], t ≤ last := by
    obtain ⟨-, -, hcross⟩ := List.pairwise_append.mp hsorted
    intro t ht
    rcases List.mem_append.mp ht with ht | ht
    · exact hcross t ht last (List.mem_singleton_self _)
    · exact (List.mem_singleton.mp ht).le
  have hc : ChecksEveryPeriod s₀.now.toNat s₀.cfg.period 0 k (times ++ [last]) :=
    ⟨hsorted, fun t ht => (hle t ht).trans_lt hlast, hcovered, k.zero_le⟩
  rw [← hcfg] at hc hfit ⊢
  obtain ⟨hu, hucfg⟩ := runTransactions_flipped ts s 0 _ (.of_blinkStart ha hstart hexec) hc hfit hrun
  exact ⟨hu.phase, hucfg ▸ hu.deadline⟩

/-! ### The outputs (R158, R161) -/

/-- Settles O55: publish and a flip while the frames are valid emit, and BLINK_START changes the phase only unarmed. -/
theorem presentEventsComeFromPublishAndFlip : Obligations.PresentEventsComeFromPublishAndFlip := by
  intro i s t hexec
  cases exec_effect hexec with
  | build hv => exact .inr (.inl ⟨rfl, rfl, hv, rfl, rfl⟩)
  | flip =>
    cases hv : s.framesValid with
    | false => left; simp [hv]
    | true => right; right; simp [hv, Phase.flip_ne]
  | start _ ha => left; simp [ha]
  | unchanged | error | store | read | readUnwritten | ack | gridWrite | raster | incomplete => left; simp

/-- Settles O21: FRAME_SEL and `present_req` are the registers themselves. -/
theorem outputsFollowTheRegisters : Obligations.OutputsFollowTheRegisters :=
  fun s => ⟨rfl, rfl, imageBase_eq s.cfg s.phase⟩

end Sys2Proof.Machine
end

section
/-! The host interface (43_host_interface): every step of a legal instance answers, and what each port transaction, NOP and
ACK_PRESENT answers. -/

namespace Sys2Proof.Machine

/-! ### The idle step and the transaction turned away -/

/-- A legal instance with no input waits (70_reset_and_hazards R241). -/
theorem step_of_pending_nil {s : State} (hl : s.cfg.legal = true) (hp : s.pending = []) : step s = .next s := by
  simp [step, runNext, hl, hp]

/-- Settles O7: with no input there is nothing to run. -/
theorem stepWaitsWithoutInput : Obligations.StepWaitsWithoutInput :=
  fun _ => step_of_pending_nil

/-- A transaction that is not admitted only sets the refusal mark (70_reset_and_hazards R250). -/
theorem runTransaction_of_not_admitted {t : Transaction} {i : Instr} {s : State} (hd : decode t = .ok i)
    (ha : admitted s i = false) : runTransaction t s = .next s.markRefusal := by
  simp [runTransaction, hd, ha]

/-! ### Every instruction of the ports answers a next state (R184, R191) -/

theorem rasterCommand_completes (sup : Bool) (w : Word) (s : State) : ∃ t, rasterCommand sup w s = .next t := by
  unfold rasterCommand
  split_ifs <;> exact ⟨_, rfl⟩

theorem execBuildFrames_completes (s : State) : ∃ t, execBuildFrames s = .next t := by
  unfold execBuildFrames
  split_ifs <;> exact ⟨_, rfl⟩

theorem execBlinkStart_completes (s : State) : ∃ t, execBlinkStart s = .next t := by
  unfold execBlinkStart
  split_ifs <;> exact ⟨_, rfl⟩

theorem execBlinkCheck_completes (s : State) : ∃ t, execBlinkCheck s = .next t := by
  unfold execBlinkCheck
  split_ifs <;> exact ⟨_, rfl⟩

/-- A register write completes, the one to CMD too: it carries a word that is no command, which is an error entry. -/
theorem exec_regWr_completes {off : Offset} {data : Word} (hwf : (Instr.regWr off data).wellFormed = true) (s : State) :
    ∃ t, exec (.regWr off data) s = .next t := by
  obtain ⟨ha, hn⟩ := wellFormed_regWr_iff.mp hwf
  cases hr : regOfOffset off with
  | none => exact ⟨_, exec_regWr_of_unmapped ha hr data s⟩
  | some r =>
    by_cases hcmd : r = .cmd
    · obtain rfl := regOfOffset_cmd (hcmd ▸ hr)
      exact ⟨_, exec_regWr_of_not_mem (fun hm => hn ⟨rfl, hm⟩) s⟩
    · exact ⟨_, exec_regWr_of_reg ha hr hcmd data s⟩

/-- GRID_WR in range writes the word (43_host_interface R185). -/
theorem exec_gridWr_of_lt {idx : Word} {s : State} (h : idx.toNat < s.cfg.cells) (data : CellWord) :
    exec (.gridWr idx data) s = .next { s with grid := s.grid.write idx.toNat data } :=
  if_pos h

/-- GRID_WR out of range is ignored (43_host_interface R185). -/
theorem exec_gridWr_of_not_lt {idx : Word} {s : State} (h : ¬ idx.toNat < s.cfg.cells) (data : CellWord) :
    exec (.gridWr idx data) s = .next s :=
  if_neg h

/-- An instruction that only answers completes. -/
theorem AnswersOnly.completes {i : Instr} {s : State} (h : AnswersOnly i s) : ∃ t, exec i s = .next t :=
  let ⟨_, _, hanswer⟩ := h
  ⟨_, hanswer s.responses s.faultMark⟩

/-- Every well-formed instruction answers a next state, in every state. -/
theorem exec_completes {i : Instr} (hwf : i.wellFormed = true) (s : State) : ∃ t, exec i s = .next t := by
  cases i with
  | nop | ackPresent => exact ⟨_, rfl⟩
  | rasterCell | rasterCellS => exact rasterCommand_completes _ _ s
  | buildFrames => exact execBuildFrames_completes s
  | blinkStart => exact execBlinkStart_completes s
  | blinkCheck => exact execBlinkCheck_completes s
  | regWr off data => exact exec_regWr_completes hwf s
  | gridWr idx data =>
    by_cases h : idx.toNat < s.cfg.cells
    · exact ⟨_, exec_gridWr_of_lt h data⟩
    · exact ⟨_, exec_gridWr_of_not_lt h data⟩
  | regRd off => exact (answersOnly_regRd hwf s).completes
  | gridRd idx => exact (answersOnly_gridRd idx s).completes
  | pixRd a => exact (answersOnly_pixRd a s).completes
  | presRd p => exact (answersOnly_presRd p s).completes

/-- A transaction that decodes completes: what it decodes to is well formed, and it is run or turned away. -/
theorem runTransaction_completes {t : Transaction} {i : Instr} (hd : decode t = .ok i) (s : State) :
    ∃ u, runTransaction t s = .next u := by
  cases ha : admitted s i with
  | false => exact ⟨_, runTransaction_of_not_admitted hd ha⟩
  | true =>
    rw [runTransaction_of_admitted hd ha]
    exact exec_completes (decodeThenEncode t i hd).2 s

/-- A register write at an aligned offset decodes: to a command or to itself. -/
theorem exists_decode_regWr_of_aligned {off : Offset} (ha : Offset.aligned off = true) (data : Word) :
    ∃ i, decode (.regWr off data) = .ok i := by
  by_cases hc : off = cmdOffset ∧ data ∈ legalCommandWords
  · obtain ⟨rfl, hm⟩ := hc
    obtain ⟨c, rfl⟩ := mem_legalCommandWords_iff.mp hm
    exact ⟨_, decode_regWr_word c⟩
  · exact ⟨_, decode_regWr_of_not_command ha hc⟩

/-- Settles O12: an idle step and a reset answer, and a transaction whose offset the port carries decodes, so it completes. -/
theorem everyStepOfALegalInstanceCompletes : Obligations.EveryStepOfALegalInstanceCompletes := by
  intro s hlegal hwrite hread
  cases hp : s.pending with
  | nil => exact ⟨s, step_of_pending_nil hlegal hp⟩
  | cons input rest =>
    rw [step_of_pending_cons hlegal hp]
    have hhead : s.pending.head? = some input := by rw [hp, List.head?_cons]
    cases input with
    | rst => exact ⟨_, rfl⟩
    | txn t =>
      have hdecode : ∃ i, decode t = .ok i := by
        cases t with
        | regWr off data => exact exists_decode_regWr_of_aligned (beq_iff_eq.mpr (hwrite off data hhead)) data
        | regRd off => exact ⟨_, decode_regRd_of_aligned (beq_iff_eq.mpr (hread off hhead))⟩
        | gridWr | gridRd | pixRd | presRd => exact ⟨_, rfl⟩
      obtain ⟨i, hd⟩ := hdecode
      exact runTransaction_completes hd _

/-! ### The register port (R182, R183) -/

/-- The port carries the offset of every register. -/
theorem aligned_offset (r : Reg) : Offset.aligned r.offset = true := by
  cases r with
  | palette i => decide +revert
  | cmd | status | cell | dstBase | dstStride | now | deadline | period | geom | errCmd => rfl

/-- REG_WR at the offset of a register other than CMD stores into that register. -/
theorem exec_regWr_offset {r : Reg} (hcmd : r ≠ .cmd) (data : Word) (s : State) :
    exec (.regWr r.offset data) s = .next (s.storeReg r data) :=
  exec_regWr_of_reg (aligned_offset r) (regOfOffset_offset r) hcmd data s

/-- Settles O13: each of the four offsets is its register's, and the store is that one field. -/
theorem regWriteStoresIntoTheOperandRegisters : Obligations.RegWriteStoresIntoTheOperandRegisters := fun data s =>
  ⟨exec_regWr_offset (r := .cell) nofun data s, exec_regWr_offset (r := .dstBase) nofun data s,
    exec_regWr_offset (r := .dstStride) nofun data s, exec_regWr_offset (r := .now) nofun data s⟩

/-- A read answers the value of the register at the offset, and 0 where there is none (30_encoding R85). -/
theorem State.readOffset_eq_elim (s : State) (off : Offset) :
    s.readOffset off = (regOfOffset off).elim 0#32 s.regValue := by
  unfold State.readOffset
  cases regOfOffset off <;> rfl

/-- Settles O15: the read answers the register at the offset, by the rows of the register map; CMD reads as 0, like an
unmapped offset. -/
theorem regReadReturnsTheMappedRegister : Obligations.RegReadReturnsTheMappedRegister := by
  intro off s hbits
  rw [exec_regRd_of_aligned (beq_iff_eq.mpr hbits)]
  refine congrArg (fun v => Host.Outcome.next (s.respond (.reg v))) ?_
  rw [State.readOffset_eq_elim]
  by_cases hcmd : off = cmdOffset
  · subst hcmd
    rfl
  · unfold regOfOffset
    simp only [if_neg hcmd, apply_ite (Option.elim · 0#32 s.regValue), Option.elim_some, Option.elim_none]
    rfl

/-! ### The grid, pixel and presentation ports (R185 to R188) -/

/-- Settles O22: in range the write is one memory write, which reads back at its own address only. -/
theorem gridWriteWritesOneWord : Obligations.GridWriteWritesOneWord := by
  refine fun idx data s => ⟨fun hlt => ?_, fun hge => exec_gridWr_of_not_lt hge.not_gt data⟩
  refine ⟨_, exec_gridWr_of_lt hlt data, rfl, ?_, ?_, fun j hj => ?_⟩
  · exact Memory.read_write_same ..
  · simp [Memory.written_write]
  · exact Memory.read_write_of_ne _ _ hj

/-- An unwritten element has no value (10_state R44). -/
theorem Memory.read_of_not_written {w : Nat} {m : Memory w} {a : Nat} (h : m.written a = false) : m.read a = none :=
  Option.not_isSome_iff_eq_none.mp (Bool.eq_false_iff.mp h)

/-- Settles O23: an out-of-range read answers 0, and one in range the stored word, or the free value where there is none. -/
theorem gridReadReturnsTheWord : Obligations.GridReadReturnsTheWord := by
  refine fun idx s => ⟨fun hge => exec_gridRd_of_not_lt hge.not_gt, fun v hlt hread => ?_, fun hlt hnew => ?_⟩
  · rw [exec_gridRd_of_lt hlt, hread]
    rfl
  · rw [exec_gridRd_of_lt hlt, Memory.read_of_not_written hnew]
    exact ⟨_, rfl⟩

/-- Settles O24: as for the grid, over the pixel space; the free value is the one the pixel holds since the last reset. -/
theorem pixelReadReturnsThePixel : Obligations.PixelReadReturnsThePixel := by
  refine fun a s => ⟨fun hge => exec_pixRd_of_not_lt hge.not_gt, fun v hlt hread => ?_, fun hlt hnew => ?_⟩
  · rw [exec_pixRd_of_lt hlt, hread]
    rfl
  · rw [exec_pixRd_of_lt hlt, Memory.read_of_not_written hnew]
    exact ⟨_, rfl⟩

/-- PRES_RD returns the written pixel at its address in the image that PHASE selects (43_host_interface R187). -/
theorem exec_presRd_of_read {p : Word} {s : State} {v : Pixel} (hlt : p.toNat < s.cfg.img)
    (hread : s.pix.read (imageBase s.cfg s.frameSel + p.toNat) = some v) :
    exec (.presRd p) s = .next (s.respond (.pres v)) := by
  rw [exec_presRd_of_lt hlt, hread]
  rfl

/-- Settles O25: the base of the selected image is 0 while VISIBLE and IMG while SUPPRESSED. -/
theorem presentationReadGoesThroughTheMux : Obligations.PresentationReadGoesThroughTheMux := by
  refine fun p s => ⟨fun hge => exec_presRd_of_not_lt hge.not_gt, fun v hlt hphase hread => ?visible,
    fun v hlt hphase hread => ?suppressed, fun hlt hnew => ?unwritten⟩
  case visible | suppressed =>
    exact exec_presRd_of_read hlt (by simpa [State.frameSel, imageBase, hphase] using hread)
  case unwritten =>
    rw [← imageBase_eq] at hnew
    have hread : s.pix.read (imageBase s.cfg s.frameSel + p.toNat) = none := Memory.read_of_not_written hnew
    rw [exec_presRd_of_lt hlt, hread]
    exact ⟨_, rfl⟩

/-! ### NOP and ACK_PRESENT (R180, R181) -/

/-- NOP is the only command whose word has OP = 0 (30_encoding R76). -/
theorem eq_nop_of_opField_word {c : Command} (h : opField c.word = 0x0#4) : c = .nop := by
  cases c with
  | nop => rfl
  | rasterCell sup => cases sup <;> exact absurd h (by decide)
  | buildFrames | blinkStart | blinkCheck | ackPresent => exact absurd h (by decide)

/-- Settles O28: a word with OP = 0 that is legal is the word of NOP, which is 0. -/
theorem nopChangesNothing : Obligations.NopChangesNothing := by
  refine ⟨rfl, fun s => ⟨rfl, fun w hop hne => exec_regWr_of_not_mem (fun hm => hne ?_) s⟩⟩
  obtain ⟨c, rfl⟩ := mem_legalCommandWords_iff.mp hm
  rw [eq_nop_of_opField_word hop]
  rfl

/-- Settles O29: the command writes the one field. -/
theorem ackClearsThePresentationRequest : Obligations.AckClearsThePresentationRequest :=
  ⟨rfl, fun _ => rfl⟩

end Sys2Proof.Machine
end

section
/-! Errors (60_exceptions): error entry, what an erroneous command changes, and that the first error is kept. -/

namespace Sys2Proof.Machine

/-! ### Error entry (R213, R214) -/

/-- The first error is recorded. -/
theorem State.raiseError_of_not_err {s : State} (h : s.err = false) (code : ErrCode) (w : Word) :
    s.raiseError code w = { s with err := true, errCode := code, errCmd := w, faultMark := true } := by
  simp [State.raiseError, h]

/-- A later error only sets the fault mark. -/
theorem State.raiseError_of_err {s : State} (h : s.err = true) (code : ErrCode) (w : Word) :
    s.raiseError code w = { s with faultMark := true } := by
  cases s
  cases h
  rfl

/-- Settles O47: by whether an error came before. -/
theorem errorEntryKeepsTheFirstError : Obligations.ErrorEntryKeepsTheFirstError := fun code w _ =>
  ⟨fun h => State.raiseError_of_not_err h code w, fun h => State.raiseError_of_err h code w⟩

/-! ### The error registers over every instruction (R213, R215) -/

/-- Error entry is the only way to the error registers: an instruction leaves them, or it enters an error of the word whose
write to CMD it is. -/
theorem Effect.error_cases {i : Instr} {s t : State} (he : Effect i s t) :
    (t.err = s.err ∧ t.errCode = s.errCode ∧ t.errCmd = s.errCmd) ∨
    ∃ code w, code ≠ .none ∧ encode i = .regWr cmdOffset w ∧ t = s.raiseError code w := by
  cases he with
  | error code w hc hw => exact .inr ⟨code, w, hc, hw, rfl⟩
  | unchanged | store | read | readUnwritten | ack | gridWrite | raster | incomplete | build | start | flip =>
    exact .inl (by simp)

/-- Settles O48: from ERR = 0 to ERR = 1 only error entry leads, and it is the first. -/
theorem erroneousCommandChangesOnlyTheErrorRegisters :
    Obligations.ErroneousCommandChangesOnlyTheErrorRegisters := by
  intro i s t hexec hs ht
  rcases (exec_effect hexec).error_cases with ⟨herr, -, -⟩ | ⟨code, w, hc, hw, rfl⟩
  · simp [herr, hs] at ht
  · rw [State.raiseError_of_not_err hs]
    exact ⟨rfl, hc, hw⟩

/-- Settles O49: an instruction leaves the error registers, or enters a later error, which keeps them. -/
theorem errorsAreStickyUntilReset : Obligations.ErrorsAreStickyUntilReset := by
  intro i s t hexec hs
  rcases (exec_effect hexec).error_cases with ⟨herr, hcode, hcmd⟩ | ⟨code, w, -, -, rfl⟩
  · exact ⟨herr.trans hs, hcode, hcmd⟩
  · rw [State.raiseError_of_err hs]
    exact ⟨hs, rfl, rfl⟩

end Sys2Proof.Machine
end

section
/-! Reset and hazards (70_reset_and_hazards): the reset input, the state right after power-up, and what BUSY = 1 admits. -/

namespace Sys2Proof.Machine

/-! ### The reset input (R240) -/

/-- At power-up STATUS reads 0. -/
theorem State.reset_statusWord : State.reset.statusWord = 0#32 := by decide

/-- Every field of STATUS takes its value of power-up (10_state R45). -/
@[simp] theorem State.applyReset_statusWord (s : State) : s.applyReset.statusWord = 0#32 :=
  calc s.applyReset.statusWord = State.reset.statusWord := rfl
    _ = 0#32 := State.reset_statusWord

/-- The reset input resets, and the inputs after it stay. -/
theorem step_of_pending_rst {s : State} {rest : List HostInput} (hl : s.cfg.legal = true)
    (hp : s.pending = .rst :: rest) : step s = .next { s.applyReset with pending := rest } :=
  step_of_pending_cons hl hp

/-- Power-up is a fixed point of reset but for the count of resets: its registers hold their reset values. -/
theorem State.applyReset_reset : State.reset.applyReset = { State.reset with resets := State.reset.resets + 1 } := rfl

/-- Settles O8: the step is `applyReset`, which sets the fields named, and power-up is a reset of two empty memories. -/
theorem resetInputSetsEveryRegister : Obligations.ResetInputSetsEveryRegister :=
  ⟨fun s _ hl hp => ⟨_, step_of_pending_rst hl hp, rfl, s.applyReset_statusWord, Memory.read_nil⟩,
    State.applyReset_reset, Memory.read_nil, rfl⟩

/-! ### Right after power-up (R241) -/

/-- The one cell RASTER_CELL writes with the operands of power-up lies in the pixel space. -/
theorem rasterLast_reset_lt_pixSize : rasterLast State.reset < State.reset.cfg.pixSize := by decide

/-- Settles O9: the scheduler is not armed, and the frames are not locked, so RASTER_CELL writes pixels and leaves STATUS. -/
theorem stateRightAfterPowerUp : Obligations.StateRightAfterPowerUp := by
  refine ⟨rfl, rfl, rfl, State.reset_statusWord, ?check, ?raster⟩
  case check => exact ⟨_, exec_blinkCheck_of_not_armed rfl, rfl, rfl⟩
  case raster => exact ⟨_, exec_rasterCell_of_fits false rfl rasterLast_reset_lt_pixSize, State.reset_statusWord⟩

/-! ### BUSY (R250) -/

/-- While BUSY = 1 only a read of STATUS is admitted. -/
theorem admitted_iff_of_busy {s : State} (hb : s.busy = true) (i : Instr) :
    admitted s i = true ↔ i = .regRd 0x004#12 := by
  simp [admitted, hb, Reg.offset]

/-- Settles O11: by whether the transaction is the one admitted. -/
theorem busyAdmitsOnlyStatusReads : Obligations.BusyAdmitsOnlyStatusReads := by
  intro s t rest i hl hb hp hd
  rw [step_of_pending_cons hl hp]
  split_ifs with hi
  · exact runTransaction_of_admitted hd ((admitted_iff_of_busy hb i).mpr hi)
  · exact runTransaction_of_not_admitted hd (Bool.eq_false_iff.mpr (mt (admitted_iff_of_busy hb i).mp hi))

end Sys2Proof.Machine
end
